-- ==== Sys2Proof/Word.lean ====
section
/-! DEFINITION. The words of GW-CORE: a byte of the framebuffer or of the wire, a coordinate operand, and the 40-bit
word of the host port. The block stores and moves nothing wider than a byte (20_memory.md R55). -/

namespace Sys2Proof

/-- A logical byte (00_scope.md R8, R10): bit 0 is the least significant. -/
abbrev Byte := BitVec 8

/-- A coordinate operand: COORD_BITS = 16 bits, two's complement (00_scope.md R6, 92_eei_decisions.md D15). -/
abbrev Coord := BitVec 16

/-- The command word of the host port, format HOSTOP (30_encoding.md R81). -/
abbrev HostWord := BitVec 40

end Sys2Proof
end

