-- ==== Sys2Proof/Syntax.lean ====
section
/-! DEFINITION. The instructions of GW-CORE: the nine host operations and the three wire command bytes (00_scope.md R2;
30_encoding.md R82, R84, R99), one constructor for each row of spec/opcode_table.json. -/

namespace Sys2Proof

/-- One row of the opcode table each. `v` is the pixel value in SETPIXEL and FILL (1 = on, 10_state.md R21) and the bit M1 in
the wire commands (30_encoding.md R84). -/
inductive Instr where
  /-- BEGIN (41_transport_ops.md R140). -/
  | beginOp
  /-- SETPIXEL x, y, v (40_framebuffer_ops.md R110). -/
  | setPixel (x y : Coord) (v : Bool)
  /-- GETPIXEL x, y (R111). -/
  | getPixel (x y : Coord)
  /-- FILL v (R112). -/
  | fill (v : Bool)
  /-- CLEAR, the pseudo-operation FILL 0 (R113; 30_encoding.md R99). -/
  | clear
  /-- ROWBYTES y (R114). -/
  | rowBytes (y : Coord)
  /-- TXCLEAR (41_transport_ops.md R146). -/
  | txClear
  /-- TXFRAME (R147). -/
  | txFrame
  /-- TXTOGGLE (R148). -/
  | txToggle
  /-- W.WRITE, pattern 000000v1 (R149). -/
  | wWrite (v : Bool)
  /-- W.CLEAR, pattern 000001v0 (R150). -/
  | wClear (v : Bool)
  /-- W.TOGGLE, pattern 000000v0 (R151). -/
  | wToggle (v : Bool)
  deriving DecidableEq, Repr

end Sys2Proof
end

