-- ==== Sys2Proof/Config.lean ====
section
/-! DEFINITION. The parameters of one instance of GW-CORE (00_scope.md R6, R7; 10_state.md R31), and the free values:
constants without a body for what the spec leaves to the environment or leaves unspecified. -/

namespace Sys2Proof

/-- PACK_ORDER (20_memory.md R53): which bit of a byte a column is. -/
inductive PackOrder where
  | msbFirst
  | lsbFirst
  deriving DecidableEq, Repr, Inhabited

/-- BITORDER_STRATEGY (42_framer_primitives.md R172): the peripheral shifts least significant bit first, or it shifts most
significant bit first and every byte is reversed before it. The two illegal mixtures are not values of this type
(70_reset_and_hazards.md R241). -/
inductive BitOrder where
  | nativeLsb
  | reverseSw
  deriving DecidableEq, Repr, Inhabited

/-- The parameters of an instance. A parameter that must be at least 1 is held less one, so that every value of this type
is a well-formed configuration by the bounds of 00_scope.md R7 (DESIGN CHOICE, log 4). Durations are whole nanoseconds and
the clock rate whole hertz (DESIGN CHOICE, log 4). -/
structure Config where
  /-- WIDTH less one: 1 <= WIDTH <= 32767. -/
  widthLessOne : Fin 32767
  /-- HEIGHT less one: 1 <= HEIGHT <= 255. -/
  heightLessOne : Fin 255
  /-- PACK_ORDER. -/
  packOrder : PackOrder
  /-- PER_ROW_TRAILER = 1. -/
  perRowTrailer : Bool
  /-- BITORDER_STRATEGY. -/
  bitOrder : BitOrder
  /-- F_SCLK in hertz, less one: 0 < F_SCLK <= 2 000 000. -/
  fSclkLessOne : Fin 2000000
  /-- CPOL: the idle level of SCLK. -/
  cpol : Bool
  /-- CPHA: which edge of a pulse samples MOSI. -/
  cpha : Bool
  /-- T_CS_SETUP in nanoseconds, less one: the duration is above 0. -/
  tCsSetupLessOne : Nat
  /-- T_CS_HOLD in nanoseconds, less one: the duration is above 0. -/
  tCsHoldLessOne : Nat
  deriving DecidableEq, Repr, Inhabited

/-- WIDTH (00_scope.md R6). -/
def Config.width (c : Config) : Nat := c.widthLessOne.val + 1

/-- HEIGHT (00_scope.md R6). -/
def Config.height (c : Config) : Nat := c.heightLessOne.val + 1

/-- F_SCLK in hertz (00_scope.md R6). -/
def Config.fSclk (c : Config) : Nat := c.fSclkLessOne.val + 1

/-- T_CS_SETUP in nanoseconds (00_scope.md R6). -/
def Config.tCsSetup (c : Config) : Nat := c.tCsSetupLessOne + 1

/-- T_CS_HOLD in nanoseconds (00_scope.md R6). -/
def Config.tCsHold (c : Config) : Nat := c.tCsHoldLessOne + 1

/-- T_VCOM_MAX, one second, in nanoseconds (00_scope.md R6, 70_reset_and_hazards.md R238). -/
def Config.tVcomMax : Nat := 1000000000

/-- The parameters as a builder of an instance offers them, before the check of 00_scope.md R7. -/
structure RawConfig where
  width : Nat
  height : Nat
  packOrder : PackOrder
  perRowTrailer : Bool
  bitOrder : BitOrder
  fSclk : Nat
  cpol : Bool
  cpha : Bool
  tCsSetup : Nat
  tCsHold : Nat
  deriving DecidableEq, Repr

/-- The environment's answer to one BEGIN: `acq_ok`, and, for a BEGIN that fails, whether step 1 had already configured
chip-select (41_transport_ops.md R140, R142; 92_eei_decisions.md D9). -/
structure AcqAnswer where
  /-- `acq_ok`: pin and bus acquisition succeeds. -/
  acqOk : Bool
  /-- On failure: chip-select was configured low, with its CS_CONFIG event, before the failure. -/
  csConfigured : Bool
  deriving DecidableEq, Repr, Inhabited

/-- Free value: the environment's answer to the BEGIN that draws number `n`, where State's list of answers is empty
(93_implementation_defined.md U17, U18; log 5). -/
opaque Config.freeAcq : Nat → AcqAnswer

/-- Free value: the level of MOSI outside the bit times of a byte, at draw `n` (10_state.md R30; log 6). -/
opaque Config.freeMosi : Nat → Bool

/-- Free value: the parameters of the instance that State.reset describes (00_scope.md R6; log 3). -/
opaque Config.panelInstance : Config

end Sys2Proof
end

