-- ==== Sys2Proof/WellFormed.lean ====
section
/-! DEFINITION. What is well formed: a core instruction (one that a word decodes to), and a configuration (00_scope.md R7). -/

namespace Sys2Proof

/-- Whether an instruction is one of the core, that is, one some word decodes to. Every operand of an Instr is a bit field, so
each of its values is encodable; CLEAR alone is a pseudo-operation, whose word decodes to FILL 0 (30_encoding.md R99, R100). -/
def Instr.wellFormed : Instr → Bool
  | .beginOp => true
  | .setPixel _ _ _ => true
  | .getPixel _ _ => true
  | .fill _ => true
  | .clear => false
  | .rowBytes _ => true
  | .txClear => true
  | .txFrame => true
  | .txToggle => true
  | .wWrite _ => true
  | .wClear _ => true
  | .wToggle _ => true

/-- The bounds of 00_scope.md R7, with COORD_BITS = 16. -/
def RawConfig.wellFormed (r : RawConfig) : Bool :=
  decide (1 ≤ r.width) && decide (r.width ≤ 32767) &&
  decide (1 ≤ r.height) && decide (r.height ≤ 255) &&
  decide (0 < r.fSclk) && decide (r.fSclk ≤ 2000000) &&
  decide (0 < r.tCsSetup) && decide (0 < r.tCsHold)

end Sys2Proof
end

