-- ==== Sys2Proof/Decode.lean ====
section
/-! DEFINITION. The two encodings of GW-CORE (30_encoding.md R80): the 40-bit command word of the host port and the 8-bit
command byte of the wire. The decoders are total and reject by name; the encoders follow. The host word reaches the port
whole, so it has no byte order (20_memory.md R55; log 12). -/

namespace Sys2Proof

/-- A word of one of the two interfaces (30_encoding.md R80). -/
inductive Word where
  /-- A command word of the host port. -/
  | host (w : HostWord)
  /-- A logical command byte of the wire. -/
  | wire (b : Byte)
  deriving DecidableEq, Repr

/-- Why a word spells no instruction. -/
inductive Reject where
  /-- A reserved operation code, or reserved bits that are not 0 (30_encoding.md R96). -/
  | reservedOp
  /-- A command byte GW-CORE never emits (30_encoding.md R95). -/
  | neverEmitted
  deriving DecidableEq, Repr

/-- Field `op`, bits 39:36 (30_encoding.md R81). -/
def opField (w : HostWord) : BitVec 4 := w.extractLsb' 36 4

/-- Field `rsv`, bits 35:33, which must be 0 (R81). -/
def rsvField (w : HostWord) : BitVec 3 := w.extractLsb' 33 3

/-- Field `v`, bit 32 (R81). -/
def vField (w : HostWord) : Bool := w.getLsbD 32

/-- Field `x`, bits 31:16 (R81, R92). -/
def xField (w : HostWord) : Coord := w.extractLsb' 16 16

/-- Field `y`, bits 15:0 (R81, R92). -/
def yField (w : HostWord) : Coord := w.extractLsb' 0 16

/-- The operation code of a host word (30_encoding.md R82); fields an operation does not use are ignored (R81). -/
def decodeOp (op : BitVec 4) (v : Bool) (x y : Coord) : Except Reject Instr :=
  if op = 0x1#4 then .ok .beginOp
  else if op = 0x2#4 then .ok (.setPixel x y v)
  else if op = 0x3#4 then .ok (.getPixel x y)
  else if op = 0x4#4 then .ok (.fill v)
  else if op = 0x5#4 then .ok (.rowBytes y)
  else if op = 0x8#4 then .ok .txClear
  else if op = 0x9#4 then .ok .txFrame
  else if op = 0xA#4 then .ok .txToggle
  else .error .reservedOp

/-- The decoder of the host port (30_encoding.md R82, R92, R96). -/
def decodeHost (w : HostWord) : Except Reject Instr :=
  if rsvField w = 0#3 then decodeOp (opField w) (vField w) (xField w) (yField w)
  else .error .reservedOp

/-- The command bytes the block emits (30_encoding.md R83, R84): bit 0 is M0, bit 1 is M1, bit 2 is M2, bits 7:3 are 0, and M0
and M2 are never both set; every other byte is never emitted (R95). -/
def decodeWire (b : Byte) : Except Reject Instr :=
  if b.extractLsb' 3 5 = 0#5 then
    match b.getLsbD 0, b.getLsbD 2 with
    | true, false => .ok (.wWrite (b.getLsbD 1))
    | false, true => .ok (.wClear (b.getLsbD 1))
    | false, false => .ok (.wToggle (b.getLsbD 1))
    | true, true => .error .neverEmitted
  else .error .neverEmitted

/-- The decoder, on any word of either interface. -/
def decode : Word → Except Reject Instr
  | .host w => decodeHost w
  | .wire b => decodeWire b

/-- A host word from its fields; the reserved field is 0 (30_encoding.md R81). -/
def hostWord (op : BitVec 4) (v : Bool) (x y : Coord) : HostWord :=
  op ++ 0#3 ++ BitVec.ofBool v ++ x ++ y

/-- A command byte from M2, M1 and M0 (30_encoding.md R83). -/
def wireByte (m2 m1 m0 : Bool) : Byte :=
  0#5 ++ BitVec.ofBool m2 ++ BitVec.ofBool m1 ++ BitVec.ofBool m0

/-- The encoder (30_encoding.md R82, R84, R99): unused fields are written as zero (R81), CLEAR is the word of FILL 0 (R99). -/
def encode : Instr → Word
  | .beginOp => .host (hostWord 0x1#4 false 0#16 0#16)
  | .setPixel x y v => .host (hostWord 0x2#4 v x y)
  | .getPixel x y => .host (hostWord 0x3#4 false x y)
  | .fill v => .host (hostWord 0x4#4 v 0#16 0#16)
  | .clear => .host (hostWord 0x4#4 false 0#16 0#16)
  | .rowBytes y => .host (hostWord 0x5#4 false 0#16 y)
  | .txClear => .host (hostWord 0x8#4 false 0#16 0#16)
  | .txFrame => .host (hostWord 0x9#4 false 0#16 0#16)
  | .txToggle => .host (hostWord 0xA#4 false 0#16 0#16)
  | .wWrite v => .wire (wireByte false v true)
  | .wClear v => .wire (wireByte true v false)
  | .wToggle v => .wire (wireByte false v false)

/-- The expansion of a pseudo-operation (30_encoding.md R99): CLEAR is FILL 0; a core instruction is itself. -/
def expand (i : Instr) : Instr :=
  if i = .clear then .fill false else i

/-- A word of `nbits` bits with the value `w`, numbered as spec/opcode_table.json numbers it: up to 8 bits it is a byte of the
wire, up to 40 a word of the host port (log 12). -/
def tableWord (nbits w : Nat) : Option Word :=
  if nbits ≤ 8 then (if w < 2 ^ 8 then some (.wire (BitVec.ofNat 8 w)) else none)
  else if nbits ≤ 40 then (if w < 2 ^ 40 then some (.host (BitVec.ofNat 40 w)) else none)
  else none

/-- The instruction the decoder reads from an instruction of the opcode table. -/
def decodeTableWord (nbits w : Nat) : Option Instr :=
  match tableWord nbits w with
  | some u => (decode u).toOption
  | none => none

end Sys2Proof
end

