-- ==== Sys2Proof/Machine/State.lean ====
section
/-! DEFINITION. The state of one GW-CORE instance (10_state.md R20 to R43), its value at reset (R42), and the reasons a step can
stop. Every field is plain data. -/

namespace Sys2Proof.Machine

/-- A pin: not driven by the block, driven low, driven high (10_state.md R29, R30). -/
inductive Pin where
  | z
  | low
  | high
  deriving DecidableEq, Repr

/-- PHASE of the sequencer position (10_state.md R24). -/
inductive Phase where
  | idle
  | setup
  | cmd
  | addr
  | data
  | rowTrail
  | finalTrail
  | hold
  deriving DecidableEq, Repr

/-- KIND: the kind of a transmission (10_state.md R24). -/
inductive Kind where
  | clear
  | write
  | toggle
  deriving DecidableEq, Repr

/-- The sequencer position SEQ = (PHASE, ROW, IDX, BIT) (10_state.md R24). -/
structure Seq where
  phase : Phase
  row : Nat
  idx : Nat
  bit : Fin 8
  deriving DecidableEq, Repr

/-- The position outside a transmission, (IDLE, 0, 0, 0) (10_state.md R24). -/
def Seq.idlePos : Seq := { phase := .idle, row := 0, idx := 0, bit := 0 }

/-- An event of the wire trace (10_state.md R40); the byte of `byte` is a logical byte. -/
inductive Event where
  | csConfig
  | csAssert
  | byte (b : Byte)
  | csDeassert
  deriving DecidableEq, Repr

/-- A memory: the cells that do not read as `Mem.unlisted`, their addresses strictly rising (log 8). -/
abbrev Mem := List Host.Cell

/-- What an address that no cell lists reads as: 0x00 (DESIGN CHOICE, log 8; 10_state.md R42 leaves FB unspecified until BEGIN
has written every byte). -/
def Mem.unlisted : Byte := 0#8

/-- The state of GW-CORE. -/
structure State where
  /-- The parameters of the instance; no operation writes them (10_state.md R31). -/
  cfg : Config
  /-- The model's own: the host's operations not yet issued, the next one first (log 1). -/
  host : List HostWord
  /-- The model's own: the environment's answers to the coming BEGINs, the next one first (log 5). -/
  env : List AcqAnswer
  /-- The model's own: how many free values have been drawn (log 5, log 6). -/
  draws : Nat
  /-- The model's own: transmissions are run one sequencer transition a step, not whole (log 2). -/
  stepwise : Bool
  /-- The model's own: the running transmission is step 3 of a BEGIN (42_framer_primitives.md R184; log 2). -/
  inBegin : Bool
  /-- FB (R21). -/
  fb : Mem
  /-- VCOM (R26). -/
  vcom : Bool
  /-- INIT (R27). -/
  init : Bool
  /-- BUSY (R28). -/
  busy : Bool
  /-- CS (R29). -/
  cs : Pin
  /-- SCLK (R30). -/
  sclk : Pin
  /-- MOSI (R30). -/
  mosi : Pin
  /-- OPX (R22). -/
  opx : Coord
  /-- OPY (R22). -/
  opy : Coord
  /-- OPV (R22). -/
  opv : Bool
  /-- RES (R22, R33). -/
  res : Bool
  /-- The bytes the last ROWBYTES returned (40_framebuffer_ops.md R114; log 9). -/
  rowRes : List Byte
  /-- OK (R22, R33). -/
  ok : Bool
  /-- SEQ (R24). -/
  seq : Seq
  /-- SHIFT (R38). -/
  shift : Byte
  /-- KIND (R24). -/
  kind : Kind
  /-- M1L (R24). -/
  m1l : Bool
  /-- NTX, ghost (R39). -/
  ntx : Nat
  /-- WIRE, ghost, the oldest event first (R40). -/
  wire : List Event
  deriving DecidableEq, Repr

/-- The state right after reset of an instance with the parameters `c` (10_state.md R42, 70_reset_and_hazards.md R230). The
values the spec states: INIT 0, BUSY 0, CS not driven, SEQ idle, NTX 0, WIRE empty. The others are log 1, 2, 5, 6, 7, 8, 9, 17. -/
def State.resetOf (c : Config) : State where
  cfg := c
  host := []
  env := []
  draws := 0
  stepwise := false
  inBegin := false
  fb := []
  vcom := false
  init := false
  busy := false
  cs := .z
  sclk := .z
  mosi := .z
  opx := 0#16
  opy := 0#16
  opv := false
  res := false
  rowRes := []
  ok := false
  seq := Seq.idlePos
  shift := 0#8
  kind := .clear
  m1l := false
  ntx := 0
  wire := []

/-- The machine right after reset: an instance nothing is known of but its PACK_ORDER, which is the spec's decided value
(00_scope.md R6, 92_eei_decisions.md D2; log 3). -/
def State.reset : State := State.resetOf { Config.panelInstance with packOrder := .msbFirst }

/-- Why the machine stops with a fault. GW-CORE itself never traps (60_exceptions.md R200). -/
inductive Fault where
  /-- A sequencer position that no transmission reaches (10_state.md R24; log 19): raised by the sequencer's transitions. Safe:
  the machine stops where the spec gives no effect. -/
  | badPosition
  deriving DecidableEq, Repr

/-- Why the machine gives no meaning. The first five are the spec's own refusals (60_exceptions.md R203). -/
inductive Refusal where
  /-- REF1: any operation but BEGIN while INIT = 0; raised by every host operation but BEGIN. Safe: the spec refuses. -/
  | notInitialised
  /-- REF2: a reserved host word; raised by the host port's decoder. Safe: the spec refuses. -/
  | reservedOp
  /-- REF3: ROWBYTES of a row outside 0 .. HEIGHT-1; raised by ROWBYTES. Safe: the spec refuses. -/
  | rowOutOfRange
  /-- REF4: an operation issued while BUSY = 1; raised by the host port and by every host operation. Safe: the spec refuses. -/
  | busy
  /-- REF5: parameters outside 00_scope.md R7; raised at construction. Safe: the spec refuses. -/
  | badConfig
  /-- A wire command byte asked for where the sequencer is not about to send it; raised by the wire commands (log 11). Safe: the
  spec emits it nowhere else. -/
  | outOfSequence
  /-- An instruction whose meaning is not written yet; raised by exec's arms. Safe. -/
  | notModelled (mnemonic : String)
  deriving DecidableEq, Repr

/-- One step's outcome. -/
abbrev Result := Host.Outcome State Fault Refusal

end Sys2Proof.Machine
end

