-- ==== Sys2Proof/Machine/BitOrder.lean ====
section
/-! DEFINITION. The bit-order transform and the peripheral's shift order (42_framer_primitives.md R171, R172). -/

namespace Sys2Proof.Machine

/-- Bit `i` of a byte, moved to bit `j`. -/
def moveBit (b : Byte) (i j : Nat) : Byte := (BitVec.ofBool (b.getLsbD i)).setWidth 8 <<< j

/-- REV8, the byte bit reversal (42_framer_primitives.md R171). -/
def rev8 (b : Byte) : Byte :=
  moveBit b 0 7 ||| moveBit b 1 6 ||| moveBit b 2 5 ||| moveBit b 3 4 |||
  moveBit b 4 3 ||| moveBit b 5 2 ||| moveBit b 6 1 ||| moveBit b 7 0

/-- The byte handed to the peripheral for a logical byte (R172, R175). -/
def registerByte (o : BitOrder) (b : Byte) : Byte :=
  match o with
  | .nativeLsb => b
  | .reverseSw => rev8 b

/-- The bit of SHIFT that the peripheral puts on MOSI as bit number `k` in time (R172, R173). -/
def shiftedBit (o : BitOrder) (sh : Byte) (k : Nat) : Bool :=
  match o with
  | .nativeLsb => sh.getLsbD k
  | .reverseSw => sh.getLsbD (7 - k)

end Sys2Proof.Machine
end

