-- ==== Sys2Proof/Machine/Operands.lean ====
section
/-! DEFINITION. Operands and address arithmetic: the derived sizes, the range test, the pixel address map and the bit position
inside a byte (00_scope.md R6; 20_memory.md R50 to R54, R58, R68). All of it is exact, on naturals and integers (R68). -/

namespace Sys2Proof.Machine

/-- ROW_BYTES = (WIDTH + 7) div 8 (00_scope.md R6, 20_memory.md R50). -/
def rowBytesOf (c : Config) : Nat := (c.width + 7) / 8

/-- FB_BYTES = ROW_BYTES * HEIGHT (R50). -/
def fbBytesOf (c : Config) : Nat := rowBytesOf c * c.height

/-- The signed test of one coordinate against its bound (20_memory.md R58). -/
def coordInRange (f : Coord) (bound : Nat) : Bool := decide (0 ≤ f.toInt) && decide (f.toInt < bound)

/-- Whether the pixel is in range: `0 <= signed(x) < WIDTH and 0 <= signed(y) < HEIGHT` (20_memory.md R58). -/
def pixelInRange (c : Config) (x y : Coord) : Bool := coordInRange x c.width && coordInRange y c.height

/-- The byte address of a pixel in range, `y * ROW_BYTES + x div 8` (20_memory.md R52). -/
def pixelAddr (c : Config) (x y : Nat) : Nat := y * rowBytesOf c + x / 8

/-- The bit of a column inside its byte (20_memory.md R53). -/
def bitpos (p : PackOrder) (x : Nat) : Nat :=
  match p with
  | .msbFirst => 7 - x % 8
  | .lsbFirst => x % 8

/-- The column or row of an in-range coordinate, as a natural number (30_encoding.md R92). -/
def coordNat (f : Coord) : Nat := f.toInt.toNat

/-- The address an in-range SETPIXEL or GETPIXEL accesses (40_framebuffer_ops.md R110, R111). -/
def operandAddr (c : Config) (x y : Coord) : Nat := pixelAddr c (coordNat x) (coordNat y)

/-- The bit it accesses there. -/
def operandBit (c : Config) (x : Coord) : Nat := bitpos c.packOrder (coordNat x)

/-- A byte with bit `k` replaced: `(old and not (1 << k)) or (v << k)`, on 8 bits (40_framebuffer_ops.md R110). -/
def insertBit (old : Byte) (k : Nat) (v : Bool) : Byte :=
  (old &&& ~~~(1#8 <<< k)) ||| ((BitVec.ofBool v).setWidth 8 <<< k)

/-- The byte FILL writes: 0xFF for on, 0x00 for off (40_framebuffer_ops.md R112). -/
def fillByte (v : Bool) : Byte := if v then 0xFF#8 else 0x00#8

end Sys2Proof.Machine
end

