-- ==== Sys2Proof/Machine/Ops.lean ====
section
/-! DEFINITION. The named operations over memory, pins and the trace that the meanings share, the host port's acceptance and
completion of an operation, and the one failure the block reports, InitFail (60_exceptions.md R200, R210). -/

namespace Sys2Proof.Machine

/-- FB[a] (00_scope.md R9). -/
def Mem.read (m : Mem) (a : Nat) : Byte :=
  match m with
  | [] => Mem.unlisted
  | c :: rest => if c.1 = a then c.2 else Mem.read rest a

/-- FB[a] <- v (00_scope.md R9), keeping the canonical form. -/
def Mem.write (m : Mem) (a : Nat) (v : Byte) : Mem :=
  match m with
  | [] => if v = Mem.unlisted then [] else [(a, v)]
  | c :: rest =>
    if c.1 < a then c :: Mem.write rest a v
    else if c.1 = a then (if v = Mem.unlisted then rest else (a, v) :: rest)
    else if v = Mem.unlisted then c :: rest
    else (a, v) :: c :: rest

/-- FB[a] <- v for every a in 0 .. n - 1 (40_framebuffer_ops.md R112; 41_transport_ops.md R146). -/
def Mem.fill (m : Mem) (n : Nat) (v : Byte) : Mem :=
  (if v = Mem.unlisted then [] else (List.range n).map fun a => (a, v)) ++ m.filter fun c => decide (n ≤ c.1)

/-- MemRead(a, n): the bytes FB[a] to FB[a+n-1], the lowest address first (00_scope.md R9). -/
def Mem.readRange (m : Mem) (a n : Nat) : List Byte := (List.range n).map fun i => m.read (a + i)

/-- The canonical form: addresses strictly rising, no cell that holds what an unlisted address reads as (log 8). -/
def Mem.wf : Mem → Bool
  | [] => true
  | [c] => decide (c.2 ≠ Mem.unlisted)
  | c :: d :: rest => decide (c.2 ≠ Mem.unlisted) && decide (c.1 < d.1) && Mem.wf (d :: rest)

/-- emit(e) (00_scope.md R9). -/
def State.emit (s : State) (e : Event) : State := { s with wire := s.wire ++ [e] }

/-- The pin level of a bit. -/
def levelOf (b : Bool) : Pin := if b then .high else .low

/-- Drives CS. -/
def State.driveCs (s : State) (p : Pin) : State := { s with cs := p }

/-- SCLK goes to its idle level, CPOL (10_state.md R30; 42_framer_primitives.md R185). -/
def State.clockIdle (s : State) : State := { s with sclk := levelOf s.cfg.cpol }

/-- SCLK goes away from its idle level (42_framer_primitives.md R185). -/
def State.clockActive (s : State) : State := { s with sclk := levelOf (!s.cfg.cpol) }

/-- MOSI changes to the bit `d` (42_framer_primitives.md R173) where `c` holds, and stays as it is elsewhere. -/
def State.present (s : State) (c d : Bool) : State := { s with mosi := if c then levelOf d else s.mosi }

/-- MOSI takes a free level: outside the bit times of a byte its level is unspecified (10_state.md R30; log 6). -/
def State.releaseMosi (s : State) : State :=
  { s with mosi := levelOf (Config.freeMosi s.draws), draws := s.draws + 1 }

/-- Moves the sequencer, `seq <- p` (00_scope.md R9). -/
def State.moveSeq (s : State) (p : Seq) : State := { s with seq := p }

/-- Zeroes every byte of FB (41_transport_ops.md R146). -/
def State.zeroFb (s : State) : State := { s with fb := s.fb.fill (fbBytesOf s.cfg) 0x00#8 }

/-- The environment's answer to the BEGIN that runs now (41_transport_ops.md R140; log 5). -/
def State.acqAnswer (s : State) : AcqAnswer :=
  match s.env with
  | [] => Config.freeAcq s.draws
  | a :: _ => a

/-- That answer is used up; each attempt draws afresh (41_transport_ops.md R142). -/
def State.takeAnswer (s : State) : State := { s with env := s.env.tail, draws := s.draws + 1 }

/-- An operation is accepted: BUSY <- 1 (40_framebuffer_ops.md R115; 41_transport_ops.md R143). -/
def State.accept (s : State) : State := { s with busy := true }

/-- An operation is complete: BUSY <- 0 (R115, R143). -/
def State.complete (s : State) : State := { s with busy := false }

/-- The checks every host operation passes before its operands are looked at, in the order of 60_exceptions.md R209: BUSY, then
INIT for every operation but BEGIN (`needInit`). -/
def portCheck (needInit : Bool) (s : State) : Option Refusal :=
  if s.busy then some .busy
  else if needInit && !s.init then some .notInitialised
  else none

/-- Runs an operation that always completes: the checks, BUSY <- 1, the effect, BUSY <- 0. -/
def runOp (needInit : Bool) (s : State) (effect : State → State) : Result :=
  match portCheck needInit s with
  | some r => .refused r
  | none => .next (effect s.accept).complete

/-- Step 1 of BEGIN: chip-select an output at its idle level, low (41_transport_ops.md R140). -/
def State.configureCs (s : State) : State := (s.driveCs .low).emit .csConfig

/-- The failure entry of the block, InitFail (60_exceptions.md R200, R201, R210; 41_transport_ops.md R142): nothing is saved, no
mode changes, control goes nowhere; OK <- 0, and chip-select may have been configured. -/
def State.initFail (s : State) (csConfigured : Bool) : State :=
  if csConfigured then { s.configureCs with ok := false } else { s with ok := false }

/-- The recovery from it (60_exceptions.md R211): there is no return operation, only a later BEGIN that succeeds, whose last act is
OK <- 1. It clears no sticky bit, for there is none (R201). -/
def State.initDone (s : State) : State := { s with ok := true }

end Sys2Proof.Machine
end

