-- ==== Sys2Proof/Machine/Flags.lean ====
section
/-! DEFINITION. The status bits and who writes them (10_state.md R33, R26): RES by GETPIXEL, VCOM (with the count NTX) by a
transmission and by the first BEGIN, INIT by a BEGIN that succeeds. OK is written by State.initFail and State.initDone and BUSY by
State.accept and State.complete (Ops.lean). There are no arithmetic condition codes (R33). -/

namespace Sys2Proof.Machine

/-- RES <- v (40_framebuffer_ops.md R111). -/
def State.setRes (s : State) (v : Bool) : State := { s with res := v }

/-- The end of a transmission: VCOM <- not VCOM, NTX <- NTX + 1 (41_transport_ops.md R144, R145). -/
def State.flipVcom (s : State) : State := { s with vcom := !s.vcom, ntx := s.ntx + 1 }

/-- A BEGIN that succeeds makes the block initialised; the first one also sets VCOM to 0 and starts the count NTX
(41_transport_ops.md R140, R141; 10_state.md R26, R27). -/
def State.markInit (s : State) : State :=
  if s.init then s else { s with init := true, vcom := false, ntx := 0 }

end Sys2Proof.Machine
end

