-- ==== Sys2Proof/Machine/Frames.lean ====
section
/-! DEFINITION. The frames of the wire as lists of logical bytes (30_encoding.md R83 to R91, R101; 41_transport_ops.md R146 to
R148). -/

namespace Sys2Proof.Machine

/-- The command byte of a transmission of kind `k` that starts with VCOM = `m1`:
`(M1L << 1) or (1 if WRITE) or (4 if CLEAR)` (42_framer_primitives.md R180; 30_encoding.md R83, R84). -/
def cmdByte (k : Kind) (m1 : Bool) : Byte :=
  ((BitVec.ofBool m1).setWidth 8 <<< 1) ||| (if k = .write then 0x01#8 else 0x00#8) ||| (if k = .clear then 0x04#8 else 0x00#8)

/-- The address byte of row `y`, zext_8(y + 1) (30_encoding.md R88). -/
def addrByte (y : Nat) : Byte := BitVec.ofNat 8 (y + 1)

/-- A trailer byte (30_encoding.md R90). -/
def trailerByte : Byte := 0x00#8

/-- The payload of row `y`: the row as stored, the lowest address first (30_encoding.md R89). -/
def rowPayload (c : Config) (m : Mem) (y : Nat) : List Byte := m.readRange (y * rowBytesOf c) (rowBytesOf c)

/-- The row trailer, where the instance has one (30_encoding.md R90). -/
def rowTrailer (c : Config) : List Byte := if c.perRowTrailer then [trailerByte] else []

/-- The row group of row `y`: address, payload, row trailer (30_encoding.md R87). -/
def rowGroup (c : Config) (m : Mem) (y : Nat) : List Byte := addrByte y :: (rowPayload c m y ++ rowTrailer c)

/-- The stride of a row group, S = 1 + ROW_BYTES + PER_ROW_TRAILER (30_encoding.md R87). -/
def rowStride (c : Config) : Nat := 1 + rowBytesOf c + (if c.perRowTrailer then 1 else 0)

/-- Frame F.CLEAR (30_encoding.md R85). -/
def clearFrame (m1 : Bool) : List Byte := [cmdByte .clear m1, trailerByte]

/-- Frame F.TOGGLE (30_encoding.md R86). -/
def toggleFrame (m1 : Bool) : List Byte := [cmdByte .toggle m1, trailerByte]

/-- Frame F.WRITE (30_encoding.md R87; 41_transport_ops.md R147). -/
def writeFrame (c : Config) (m : Mem) (m1 : Bool) : List Byte :=
  [cmdByte .write m1] ++ (List.range c.height).flatMap (rowGroup c m) ++ [trailerByte]

/-- The frame of a transmission of kind `k` with framebuffer contents `m` and starting polarity `m1`. -/
def frameOf (c : Config) (m : Mem) (k : Kind) (m1 : Bool) : List Byte :=
  match k with
  | .clear => clearFrame m1
  | .write => writeFrame c m m1
  | .toggle => toggleFrame m1

/-- The length of a frame in logical bytes, from its kind and the instance's constants (30_encoding.md R91). -/
def frameLength (c : Config) (k : Kind) : Nat :=
  match k with
  | .clear => 2
  | .write => 1 + c.height * rowStride c + 1
  | .toggle => 2

/-- The offset in F.WRITE of the address byte of row `y` (30_encoding.md R101). -/
def addrOffset (c : Config) (y : Nat) : Nat := 1 + y * rowStride c

/-- The offset in F.WRITE of the byte that holds pixel `(x, y)` (30_encoding.md R101). -/
def pixelOffset (c : Config) (x y : Nat) : Nat := 2 + y * rowStride c + x / 8

end Sys2Proof.Machine
end

