-- ==== Sys2Proof/Machine/FrameBuffer.lean ====
section
/-! DEFINITION. The meanings of the FrameBuffer operations (40_framebuffer_ops.md R110 to R115). None of them touches the wire, VCOM
or CS (R115). An operand latch is loaded only by the operations that name it, once the checks have passed (10_state.md R22;
log 13). -/

namespace Sys2Proof.Machine

/-- The effect of SETPIXEL on FB: one bit of one byte in range, nothing out of range (40_framebuffer_ops.md R110). -/
def setPixelFb (c : Config) (m : Mem) (x y : Coord) (v : Bool) : Mem :=
  if pixelInRange c x y then
    m.write (operandAddr c x y) (insertBit (m.read (operandAddr c x y)) (operandBit c x) v)
  else m

/-- The bit GETPIXEL returns: the stored one in range, 0 out of range (40_framebuffer_ops.md R111; 92_eei_decisions.md D3). -/
def getPixelBit (c : Config) (m : Mem) (x y : Coord) : Bool :=
  if pixelInRange c x y then (m.read (operandAddr c x y)).getLsbD (operandBit c x) else false

/-- The effect of FILL on FB: every byte, padding bits included (40_framebuffer_ops.md R112; 10_state.md R23). -/
def fillFb (c : Config) (m : Mem) (v : Bool) : Mem := m.fill (fbBytesOf c) (fillByte v)

/-- SETPIXEL (40_framebuffer_ops.md R110). -/
def execSetPixel (x y : Coord) (v : Bool) (s : State) : Result :=
  runOp true s fun s => { s with opx := x, opy := y, opv := v, fb := setPixelFb s.cfg s.fb x y v }

/-- GETPIXEL (R111). -/
def execGetPixel (x y : Coord) (s : State) : Result :=
  runOp true s fun s => State.setRes { s with opx := x, opy := y } (getPixelBit s.cfg s.fb x y)

/-- FILL (R112). -/
def execFill (v : Bool) (s : State) : Result :=
  runOp true s fun s => { s with opv := v, fb := fillFb s.cfg s.fb v }

/-- CLEAR, the same as FILL 0 (R113; 30_encoding.md R99). -/
def execClear (s : State) : Result :=
  runOp true s fun s => { s with opv := false, fb := fillFb s.cfg s.fb false }

/-- ROWBYTES (R114): the bytes of the row, by value (20_memory.md R71); refused out of range, after the checks of the port
(60_exceptions.md R209), and a refusal changes nothing (R203). -/
def execRowBytes (y : Coord) (s : State) : Result :=
  match portCheck true s with
  | some r => .refused r
  | none =>
    if coordInRange y s.cfg.height then
      .next (State.complete { s.accept with opy := y, rowRes := rowPayload s.cfg s.fb (coordNat y) })
    else .refused .rowOutOfRange

end Sys2Proof.Machine
end

