-- ==== Sys2Proof/Machine/Framer.lean ====
section
/-! DEFINITION. The framer primitives SENDBYTE, CSASSERT and CSDEASSERT (42_framer_primitives.md R173, R176, R177, R185), the
envelope Transmit (41_transport_ops.md R144), and the start and the end of a transmission that both descriptions of it, the
big-step one and the sequencer, share (R146 to R148; 42_framer_primitives.md R178, R184). No time passes in the model, so the waits
of T_CS_SETUP and T_CS_HOLD have no step of their own (log 14). -/

namespace Sys2Proof.Machine

/-- CSASSERT: CS <- 1, emit(CS_ASSERT) (42_framer_primitives.md R176). -/
def State.csAssert (s : State) : State := (s.driveCs .high).emit .csAssert

/-- CSDEASSERT: CS <- 0, emit(CS_DEASSERT) (42_framer_primitives.md R177). -/
def State.csDeassert (s : State) : State := (s.driveCs .low).emit .csDeassert

/-- SHIFT <- the byte for the peripheral; no bit of it is shifted out yet (42_framer_primitives.md R173). -/
def State.loadShift (s : State) (b : Byte) : State :=
  { s with shift := registerByte s.cfg.bitOrder b, seq := { s.seq with bit := 0 } }

/-- MOSI changes to the bit of SHIFT that BIT names (42_framer_primitives.md R173) where `c` holds. -/
def State.presentBit (s : State) (c : Bool) : State := s.present c (shiftedBit s.cfg.bitOrder s.shift s.seq.bit.val)

/-- A byte loaded, before its first edge: with CPHA = 0 its first bit is on MOSI already, since the receiver samples it on that edge; with
CPHA = 1 MOSI changes on that edge (42_framer_primitives.md R185; PRESUMED, log 21). -/
def State.setUpByte (s : State) (b : Byte) : State :=
  (s.loadShift b).presentBit (!s.cfg.cpha)

/-- BIT counts one more bit shifted out; after the eighth it is 0 again (10_state.md R24). -/
def State.countBit (s : State) : State := { s with seq := { s.seq with bit := s.seq.bit + 1 } }

/-- The first edge of a pulse, away from the idle level: with CPHA = 1 the sender changes MOSI on it (42_framer_primitives.md R185;
PRESUMED, log 21). -/
def State.firstEdge (s : State) : State :=
  s.clockActive.presentBit s.cfg.cpha

/-- The second edge of a pulse, back to the idle level, which ends the bit: with CPHA = 0 the sender changes MOSI on it to the next bit,
if the byte has one left; after the last one MOSI is unspecified, see State.sendByte (42_framer_primitives.md R185; PRESUMED, log 21). -/
def State.secondEdge (s : State) : State :=
  let t := s.clockIdle.countBit
  t.presentBit (!t.cfg.cpha && decide (t.seq.bit ≠ 0))

/-- One bit: one SCLK pulse, two edges (42_framer_primitives.md R173, R185). -/
def State.shiftBit (s : State) : State := s.firstEdge.secondEdge

/-- `n` bits. -/
def State.shiftBits (s : State) : Nat → State
  | 0 => s
  | n + 1 => (s.shiftBits n).shiftBit

/-- The level the receiver samples in the pulse that comes next: MOSI on its first edge when CPHA = 0, on its second when CPHA = 1
(42_framer_primitives.md R185; PRESUMED, log 21). -/
def State.sampledLevel (s : State) : Pin :=
  if s.cfg.cpha then s.firstEdge.secondEdge.mosi else s.firstEdge.mosi

/-- SENDBYTE (42_framer_primitives.md R173): eight bits, then emit(BYTE(b)); MOSI is unspecified after them. -/
def State.sendByte (s : State) (b : Byte) : State := (((s.setUpByte b).shiftBits 8).releaseMosi).emit (.byte b)

/-- SENDBYTE for each byte in order. -/
def State.sendBytes (s : State) (bs : List Byte) : State := bs.foldl State.sendByte s

/-- The start of a transmission: KIND, M1L <- VCOM, CSASSERT (42_framer_primitives.md R178; 92_eei_decisions.md D28). -/
def State.openFrame (s : State) (k : Kind) : State := State.csAssert { s with kind := k, m1l := s.vcom }

/-- The end of a transmission: CSDEASSERT, the flip, and for a clear the zeroing of FB; the sequencer is idle again
(41_transport_ops.md R144 to R146, R154; 42_framer_primitives.md R184). -/
def State.closeFrame (s : State) : State :=
  let t := s.csDeassert.flipVcom
  (if t.kind = .clear then t.zeroFb else t).moveSeq Seq.idlePos

/-- A whole transmission of kind `k` (41_transport_ops.md R144, R146 to R148). -/
def State.transmission (s : State) (k : Kind) : State :=
  ((s.openFrame k).sendBytes (frameOf s.cfg s.fb k s.vcom)).closeFrame

/-- Steps 1 and 2 of a BEGIN whose acquisition succeeds, and what it initialises (41_transport_ops.md R140, R141): chip-select
configured, the bus acquired (SCLK at its idle level, MOSI unspecified, 10_state.md R42), INIT and, at the first one, VCOM and NTX. -/
def State.beginAcquire (s : State) : State := s.configureCs.clockIdle.releaseMosi.markInit

end Sys2Proof.Machine
end

