-- ==== Sys2Proof/Machine/Transport.lean ====
section
/-! DEFINITION. The meanings of the DisplayTransport operations, in the big-step form, which is the normative one
(41_transport_ops.md R140 to R148; 42_framer_primitives.md R186). -/

namespace Sys2Proof.Machine

/-- The effect of BEGIN (41_transport_ops.md R140, R141, R142): the environment answers; a failure is InitFail; a success runs
steps 1 to 3, at a repeated BEGIN too, and ends with OK <- 1. -/
def beginEffect (s : State) : State :=
  if s.acqAnswer.acqOk then (s.takeAnswer.beginAcquire.transmission .clear).initDone
  else s.takeAnswer.initFail s.acqAnswer.csConfigured

/-- BEGIN (41_transport_ops.md R140). -/
def execBegin (s : State) : Result := runOp false s beginEffect

/-- TXCLEAR (R146). -/
def execTxClear (s : State) : Result := runOp true s fun s => s.transmission .clear

/-- TXFRAME (R147). -/
def execTxFrame (s : State) : Result := runOp true s fun s => s.transmission .write

/-- TXTOGGLE (R148). -/
def execTxToggle (s : State) : Result := runOp true s fun s => s.transmission .toggle

end Sys2Proof.Machine
end

