-- ==== Sys2Proof/Machine/WireCommands.lean ====
section
/-! DEFINITION. The meanings of the wire command bytes W.WRITE, W.CLEAR and W.TOGGLE (41_transport_ops.md R149 to R151): to execute
one is to send it, as the sequencer does in CMD (42_framer_primitives.md R180). Each is emitted only as byte 0 of a frame of its own
kind, with v the VCOM the transmission started with; anywhere else it is refused (log 11). -/

namespace Sys2Proof.Machine

/-- Whether a state is inside an envelope, between two bytes: CS = 1, no bit of the next byte shifted yet
(42_framer_primitives.md R173). -/
def State.betweenBytes (s : State) : Bool := decide (s.cs = .high) && decide (s.seq.bit = 0)

/-- Whether the sequencer is about to send the command byte of kind `k` with M1 = `v`. -/
def State.atCommand (s : State) (k : Kind) (v : Bool) : Bool :=
  decide (s.seq.phase = .cmd) && decide (s.kind = k) && decide (s.m1l = v) && s.betweenBytes

/-- The position after the command byte (42_framer_primitives.md R180). -/
def afterCommand (k : Kind) : Seq :=
  { phase := if k = .write then .addr else .finalTrail, row := 0, idx := 0, bit := 0 }

/-- Sends the command byte of kind `k` and moves on (42_framer_primitives.md R180). -/
def sendCommand (k : Kind) (v : Bool) (s : State) : Result :=
  if s.atCommand k v then .next ((s.sendByte (cmdByte k v)).moveSeq (afterCommand k))
  else .refused .outOfSequence

/-- W.WRITE (41_transport_ops.md R149). -/
def execWWrite (v : Bool) (s : State) : Result := sendCommand .write v s

/-- W.CLEAR (R150). -/
def execWClear (v : Bool) (s : State) : Result := sendCommand .clear v s

/-- W.TOGGLE (R151). -/
def execWToggle (v : Bool) (s : State) : Result := sendCommand .toggle v s

end Sys2Proof.Machine
end

