-- ==== Sys2Proof/Machine/Dispatch.lean ====
section
/-! DEFINITION. The dispatch of an instruction to its meaning, one arm each. -/

namespace Sys2Proof.Machine

def exec (i : Instr) (s : State) : Host.Outcome State Fault Refusal :=
  match i with
  | .beginOp => Sys2Proof.Machine.execBegin s
  | .setPixel x y v => Sys2Proof.Machine.execSetPixel x y v s
  | .getPixel x y => Sys2Proof.Machine.execGetPixel x y s
  | .fill v => Sys2Proof.Machine.execFill v s
  | .clear => Sys2Proof.Machine.execClear s
  | .rowBytes y => Sys2Proof.Machine.execRowBytes y s
  | .txClear => Sys2Proof.Machine.execTxClear s
  | .txFrame => Sys2Proof.Machine.execTxFrame s
  | .txToggle => Sys2Proof.Machine.execTxToggle s
  | .wWrite v => Sys2Proof.Machine.execWWrite v s
  | .wClear v => Sys2Proof.Machine.execWClear v s
  | .wToggle v => Sys2Proof.Machine.execWToggle v s

end Sys2Proof.Machine
end

