-- ==== Sys2Proof/Machine/Sequencer.lean ====
section
/-! DEFINITION. The transport sequencer (42_framer_primitives.md R178 to R184; 10_state.md R24, R25): how a transmission starts when
it is run one transition a step, and every transition but CMD, which is the execution of the wire command byte
(WireCommands.lean). -/

namespace Sys2Proof.Machine

/-- The start of a transmission (42_framer_primitives.md R178): the frame is opened and `seq <- (SETUP, 0, 0, 0)`. -/
def State.startFrame (s : State) (k : Kind) : State :=
  (s.openFrame k).moveSeq { phase := .setup, row := 0, idx := 0, bit := 0 }

/-- A transmission operation accepted in the stepwise form: the checks of the port, BUSY <- 1 and the start; BUSY stays 1. -/
def startTransmission (k : Kind) (s : State) : Result :=
  match portCheck true s with
  | some r => .refused r
  | none => .next (s.accept.startFrame k)

/-- BEGIN accepted in the stepwise form: a failure completes at once, a success starts the clear of its step 3 and stays "inside
BEGIN" (41_transport_ops.md R140; 42_framer_primitives.md R178, R184). -/
def startBegin (s : State) : Result :=
  match portCheck false s with
  | some r => .refused r
  | none =>
    if s.accept.acqAnswer.acqOk then
      .next { s.accept.takeAnswer.beginAcquire.startFrame .clear with inBegin := true }
    else .next (beginEffect s.accept).complete

/-- A host operation issued in the stepwise form: the four that transmit start their transmission, the others are whole
(42_framer_primitives.md R178). -/
def startOp (i : Instr) (s : State) : Result :=
  match i with
  | .beginOp => startBegin s
  | .setPixel x y v => exec (.setPixel x y v) s
  | .getPixel x y => exec (.getPixel x y) s
  | .fill v => exec (.fill v) s
  | .clear => exec .clear s
  | .rowBytes y => exec (.rowBytes y) s
  | .txClear => startTransmission .clear s
  | .txFrame => startTransmission .write s
  | .txToggle => startTransmission .toggle s
  | .wWrite v => exec (.wWrite v) s
  | .wClear v => exec (.wClear v) s
  | .wToggle v => exec (.wToggle v) s

/-- Whether the position is one its phase can have (10_state.md R24; 42_framer_primitives.md R181 to R183). -/
def seqInRange (c : Config) (p : Seq) : Bool :=
  match p.phase with
  | .addr => decide (p.row < c.height)
  | .data => decide (p.row < c.height) && decide (p.idx < rowBytesOf c)
  | .rowTrail => decide (p.row < c.height) && c.perRowTrailer
  | _ => true

/-- The position after the last byte of a row group (42_framer_primitives.md R182, R183). -/
def nextRow (c : Config) (row : Nat) : Seq :=
  if row + 1 < c.height then { phase := .addr, row := row + 1, idx := 0, bit := 0 }
  else { phase := .finalTrail, row := 0, idx := 0, bit := 0 }

/-- The position after a payload byte (42_framer_primitives.md R182). -/
def nextData (c : Config) (p : Seq) : Seq :=
  if p.idx + 1 < rowBytesOf c then { phase := .data, row := p.row, idx := p.idx + 1, bit := 0 }
  else if c.perRowTrailer then { phase := .rowTrail, row := p.row, idx := 0, bit := 0 }
  else nextRow c p.row

/-- What follows the end of a transmission (42_framer_primitives.md R184): inside BEGIN, BEGIN ends with OK <- 1; BUSY <- 0. -/
def State.endTransmission (s : State) : State :=
  let t := s.closeFrame
  (if t.inBegin then { t.initDone with inBegin := false } else t).complete

/-- The effect of one transition away from IDLE and CMD, at a position in range (42_framer_primitives.md R179, R181 to R184). -/
def sequencerMove (s : State) : State :=
  match s.seq.phase with
  | .setup => s.moveSeq { phase := .cmd, row := 0, idx := 0, bit := 0 }
  | .addr => (s.sendByte (addrByte s.seq.row)).moveSeq { phase := .data, row := s.seq.row, idx := 0, bit := 0 }
  | .data => (s.sendByte (s.fb.read (s.seq.row * rowBytesOf s.cfg + s.seq.idx))).moveSeq (nextData s.cfg s.seq)
  | .rowTrail => (s.sendByte trailerByte).moveSeq (nextRow s.cfg s.seq.row)
  | .finalTrail => (s.sendByte trailerByte).moveSeq { phase := .hold, row := 0, idx := 0, bit := 0 }
  | .hold => s.endTransmission
  | .idle => s
  | .cmd => s

/-- One transition of the sequencer. A position outside its phase's range, or one outside an envelope, is one no transmission
reaches, and the machine stops there (log 19). -/
def advance (s : State) : Result :=
  if s.betweenBytes && seqInRange s.cfg s.seq then .next (sequencerMove s)
  else .fault .badPosition

end Sys2Proof.Machine
end

