-- ==== Sys2Proof/Machine/Fetch.lean ====
section
/-! DEFINITION. What the machine does next: it issues the host's next operation when it is idle, executes the wire command byte in
CMD, and otherwise moves the sequencer (10_state.md R24, R28; 60_exceptions.md R209; log 1, log 2). -/

namespace Sys2Proof.Machine

/-- What a step is about to do. -/
inductive Fetched where
  /-- Nothing: the host has no operation to issue (10_state.md R42: "the block does nothing until the host issues BEGIN"). -/
  | nothing
  /-- The host port refuses. -/
  | refuse (r : Refusal)
  /-- The host issues `i`; `s` is the state with the operation taken from the host's list. -/
  | issue (i : Instr) (s : State)
  /-- The sequencer is in CMD: the wire command byte `i`. -/
  | command (i : Instr)
  /-- The sequencer is elsewhere in a transmission. -/
  | move
  deriving DecidableEq, Repr

/-- The wire command of a transmission (42_framer_primitives.md R180; 30_encoding.md R84). -/
def wireInstr (k : Kind) (m1 : Bool) : Instr :=
  match k with
  | .clear => .wClear m1
  | .write => .wWrite m1
  | .toggle => .wToggle m1

/-- The host port: BUSY first, then the decoder (60_exceptions.md R209). -/
def fetchHost (s : State) : Fetched :=
  match s.host with
  | [] => .nothing
  | w :: rest =>
    if s.busy then .refuse .busy
    else match decodeHost w with
      | .error _ => .refuse .reservedOp
      | .ok i => .issue i { s with host := rest }

/-- In CMD: the command byte that KIND and M1L form, decoded (42_framer_primitives.md R180). -/
def fetchCommand (s : State) : Fetched :=
  match decodeWire (cmdByte s.kind s.m1l) with
  | .error _ => .move
  | .ok i => .command i

/-- What the machine does next. -/
def fetch (s : State) : Fetched :=
  match s.seq.phase with
  | .idle => fetchHost s
  | .cmd => fetchCommand s
  | _ => .move

/-- Runs what was fetched. -/
def runFetched (s : State) : Fetched → Result
  | .nothing => .next s
  | .refuse r => .refused r
  | .issue i t => if t.stepwise then startOp i t else exec i t
  | .command i => exec i s
  | .move => advance s

/-- A host word placed where the port takes its next operation: at the head of the host's list, with the sequencer idle and BUSY 0,
as the port needs them to take it. -/
def placeHost (s : State) (w : HostWord) : State :=
  { s with host := w :: s.host, busy := false, seq := Seq.idlePos }

/-- CMD of a transmission of kind `k` that started with VCOM = `v`, inside its envelope. -/
def placeAtCmd (s : State) (k : Kind) (v : Bool) : State :=
  { s with kind := k, m1l := v, busy := true, cs := .high, seq := { phase := .cmd, row := 0, idx := 0, bit := 0 } }

/-- A command byte placed where the sequencer sends it next: in CMD of a transmission whose KIND and M1L form the byte. A byte that
no transmission forms is placed nowhere. -/
def placeCommand (s : State) (b : Byte) : State :=
  match decodeWire b with
  | .ok (.wWrite v) => placeAtCmd s .write v
  | .ok (.wClear v) => placeAtCmd s .clear v
  | .ok (.wToggle v) => placeAtCmd s .toggle v
  | _ => s

/-- A word of either interface placed where the next step takes it. -/
def placeWord (s : State) : Word → State
  | .host w => placeHost s w
  | .wire b => placeCommand s b

end Sys2Proof.Machine
end

