-- ==== Sys2Proof/Machine/Step.lean ====
section
/-! DEFINITION. One step of the machine (70_reset_and_hazards.md R235), and how a program's next instruction is placed for it
(log 1, log 12). -/

namespace Sys2Proof.Machine

/-- One step: a host operation as a whole, or, inside a transmission, one transition of the sequencer. -/
def step (s : State) : Host.Outcome State Fault Refusal := runFetched s (fetch s)

/-- `s` with an instruction of the opcode table placed where step takes its next one: a host word in the host's list, a wire command
byte in the sequencer's CMD. -/
def State.withFetchWord (s : State) (nbits w : Nat) : State :=
  match tableWord nbits w with
  | some u => placeWord s u
  | none => s

end Sys2Proof.Machine
end

