-- ==== Sys2Proof/Machine/Assembler.lean ====
section
/-! DEFINITION. The assembler of 30_encoding.md R98 and R99, on a line already cut into a mnemonic and operands (the characters of a
line are not hardware; log 12). -/

namespace Sys2Proof.Machine

/-- An operand of a line: a number, decimal or hexadecimal, or one of the words `on` and `off` (R98, R99). -/
inductive AsmOperand where
  | num (n : Int)
  | on
  | off
  deriving DecidableEq, Repr

/-- A coordinate operand: a number a 16-bit two's complement field holds (R81, R98), so -32768 to 32767. DESIGN CHOICE (log 12): a
hexadecimal text stands for its number, not for the field's bits, so a line with `0xFFFF` (65535) is rejected. R92 says that the field
0xFFFF is -1; no rule says whether the text 0xFFFF names that field or the number 65535. Every field value has a decimal text. -/
def asmCoord : AsmOperand → Option Coord
  | .num n => if -32768 ≤ n ∧ n ≤ 32767 then some (BitVec.ofInt 16 n) else none
  | .on => none
  | .off => none

/-- A value operand: 0 or 1, or `off` or `on`. R98 gives the two words on SETPIXEL's line; that FILL takes them too is DEDUCED from the
`fill(off)` that R99 quotes (log 12). -/
def asmValue : AsmOperand → Option Bool
  | .num n => if n = 0 then some false else if n = 1 then some true else none
  | .on => some true
  | .off => some false

/-- The instruction a line names (R98). -/
def assemble (mnemonic : String) (ops : List AsmOperand) : Option Instr :=
  match ops with
  | [] =>
    if mnemonic = "BEGIN" then some .beginOp
    else if mnemonic = "CLEAR" then some .clear
    else if mnemonic = "TXCLEAR" then some .txClear
    else if mnemonic = "TXFRAME" then some .txFrame
    else if mnemonic = "TXTOGGLE" then some .txToggle
    else none
  | [a] =>
    if mnemonic = "FILL" then (asmValue a).map .fill
    else if mnemonic = "ROWBYTES" then (asmCoord a).map .rowBytes
    else none
  | [a, b] =>
    if mnemonic = "GETPIXEL" then
      match asmCoord a, asmCoord b with
      | some x, some y => some (.getPixel x y)
      | _, _ => none
    else none
  | [a, b, c] =>
    if mnemonic = "SETPIXEL" then
      match asmCoord a, asmCoord b, asmValue c with
      | some x, some y, some v => some (.setPixel x y v)
      | _, _, _ => none
    else none
  | _ => none

/-- The line of a host operation (R98); a wire command byte has none. -/
def disassemble : Instr → Option (String × List AsmOperand)
  | .beginOp => some ("BEGIN", [])
  | .setPixel x y v => some ("SETPIXEL", [.num x.toInt, .num y.toInt, .num (if v then 1 else 0)])
  | .getPixel x y => some ("GETPIXEL", [.num x.toInt, .num y.toInt])
  | .fill v => some ("FILL", [.num (if v then 1 else 0)])
  | .clear => some ("CLEAR", [])
  | .rowBytes y => some ("ROWBYTES", [.num y.toInt])
  | .txClear => some ("TXCLEAR", [])
  | .txFrame => some ("TXFRAME", [])
  | .txToggle => some ("TXTOGGLE", [])
  | .wWrite _ => none
  | .wClear _ => none
  | .wToggle _ => none

end Sys2Proof.Machine
end

