-- ==== Sys2Proof/Machine/Construct.lean ====
section
/-! DEFINITION. Construction of an instance from offered parameters (00_scope.md R6, R7; 70_reset_and_hazards.md R232 step 1). -/

namespace Sys2Proof.Machine

/-- The configuration of well-formed parameters; anything else is refused with BadConfig (00_scope.md R7; 60_exceptions.md R203
REF5). Within the bounds of R7 the casts to the bounded fields change no value. -/
def configOf (r : RawConfig) : Except Refusal Config :=
  if r.wellFormed then
    .ok { widthLessOne := Fin.ofNat 32767 (r.width - 1), heightLessOne := Fin.ofNat 255 (r.height - 1),
          packOrder := r.packOrder, perRowTrailer := r.perRowTrailer, bitOrder := r.bitOrder,
          fSclkLessOne := Fin.ofNat 2000000 (r.fSclk - 1), cpol := r.cpol, cpha := r.cpha,
          tCsSetupLessOne := r.tCsSetup - 1, tCsHoldLessOne := r.tCsHold - 1 }
  else .error .badConfig

/-- An instance constructed and reset. -/
def construct (r : RawConfig) : Result :=
  match configOf r with
  | .ok c => .next (State.resetOf c)
  | .error e => .refused e

end Sys2Proof.Machine
end

