-- ==== Sys2Proof/Machine/Trace.lean ====
section
/-! DEFINITION. Reading the wire trace (10_state.md R40; 41_transport_ops.md R152): the well-formed traces, and the frames in them. -/

namespace Sys2Proof.Machine

/-- What a reader of the trace has seen: the level CS is at, the frames that are complete, oldest first, and the bytes of the one
that is open. -/
structure TraceView where
  pin : Pin
  done : List (List Byte)
  cur : List Byte
  deriving DecidableEq, Repr

/-- One event read; none where no well-formed trace has it (10_state.md R40): CS is configured before the first frame, a frame opens
at low and closes at high with at least two bytes, and every byte lies inside a frame. -/
def readEvent (v : TraceView) (e : Event) : Option TraceView :=
  match v.pin, e with
  | .z, .csConfig => some { v with pin := .low }
  | .low, .csConfig => some v
  | .low, .csAssert => some { v with pin := .high, cur := [] }
  | .high, .byte b => some { v with cur := v.cur ++ [b] }
  | .high, .csDeassert =>
    if 2 ≤ v.cur.length then some { pin := .low, done := v.done ++ [v.cur], cur := [] } else none
  | _, _ => none

/-- The trace read from the start. -/
def readTrace (w : List Event) : Option TraceView :=
  w.foldlM readEvent { pin := .z, done := [], cur := [] }

/-- The complete frames of a trace; none of a trace that is not well formed. -/
def framesOf (w : List Event) : List (List Byte) :=
  match readTrace w with
  | some v => v.done
  | none => []

/-- The bit M1 of a frame's command byte (30_encoding.md R83). -/
def frameM1 (f : List Byte) : Bool :=
  match f with
  | [] => false
  | b :: _ => b.getLsbD 1

/-- The logical bytes of a trace, in order (the "byte stream" of 41_transport_ops.md R152). -/
def bytesOf (w : List Event) : List Byte :=
  w.filterMap fun e => match e with
    | .byte b => some b
    | _ => none

/-- The events of one envelope around the bytes `bs` (41_transport_ops.md R144). -/
def envelope (bs : List Byte) : List Event := .csAssert :: (bs.map .byte ++ [.csDeassert])

/-- The bits of a logical byte on the data line, in time order (42_framer_primitives.md R174; 30_encoding.md R94). -/
def wireBits (b : Byte) : List Bool := (List.range 8).map b.getLsbD

/-- The bytes an observer of the peripheral's data register sees (42_framer_primitives.md R175). -/
def registerView (o : BitOrder) (w : List Event) : List Byte := (bytesOf w).map (registerByte o)

/-- How many bytes of the frame are sent when the sequencer is at `p` (10_state.md R24; 30_encoding.md R101). -/
def seqOffset (c : Config) (k : Kind) (p : Seq) : Nat :=
  match p.phase with
  | .idle => 0
  | .setup => 0
  | .cmd => 0
  | .addr => addrOffset c p.row
  | .data => addrOffset c p.row + 1 + p.idx
  | .rowTrail => addrOffset c p.row + 1 + rowBytesOf c
  | .finalTrail => frameLength c k - 1
  | .hold => frameLength c k

end Sys2Proof.Machine
end

