-- ==== Sys2Proof/Machine/Panel.lean ====
section
/-! DEFINITION. The informative sink model of the panel (10_state.md R41; 92_eei_decisions.md D27): not part of GW-CORE, and no rule
of GW-CORE reads it. It is a function of the trace WIRE (log 22). -/

namespace Sys2Proof.Machine

/-- One row of the panel: blank, which is no payload (91_not_in_source.md N7), or the payload it was sent. -/
inductive RowImage where
  | blank
  | payload (bs : List Byte)
  deriving DecidableEq, Repr

/-- The panel: its rows, none while UNKNOWN (before the first clear frame), and the polarity bit it was last sent (D27). -/
structure Panel where
  rows : Option (List RowImage)
  polarity : Option Bool
  deriving DecidableEq, Repr

/-- The panel before any frame. -/
def panelUnknown : Panel := { rows := none, polarity := none }

/-- At most `n` row groups of a write frame: row `addr` takes the payload that follows the address byte (10_state.md R41). GW-CORE emits
the addresses 1 to HEIGHT once each, in order, and the spec does not say what a panel does with others (30_encoding.md R95;
93_implementation_defined.md U21). The sink's own choice there (DESIGN CHOICE, log 22): the address 0x00 and one above HEIGHT are skipped
with their payload, a repeated row keeps the last payload, the order is free, a frame that ends early stores what it has, and trailer
bytes are not looked at. -/
def storeRows (c : Config) (n : Nat) (body : List Byte) (rows : List RowImage) : List RowImage :=
  match n, body with
  | 0, _ => rows
  | _, [] => rows
  | n + 1, a :: rest =>
    storeRows c n (rest.drop (rowStride c - 1))
      (if a = 0#8 then rows else rows.set (a.toNat - 1) (.payload (rest.take (rowBytesOf c))))

/-- A frame received (10_state.md R41): a clear frame blanks every row, a write frame stores its rows, a toggle frame changes no
row. GW-CORE never emits another, and the spec does not say what a panel does with one (30_encoding.md R95;
93_implementation_defined.md U21). The sink's own choice there (DESIGN CHOICE, log 22): a command byte with M0 and M2 both set is a
clear, bits 7:3 are ignored, a frame of one byte is taken by its command byte, and a frame of none changes nothing. -/
def panelReceive (c : Config) (p : Panel) (f : List Byte) : Panel :=
  match f with
  | [] => p
  | cmd :: body =>
    { rows :=
        if cmd.getLsbD 2 then some (List.replicate c.height .blank)
        else if cmd.getLsbD 0 then p.rows.map (storeRows c c.height body)
        else p.rows,
      polarity := some (cmd.getLsbD 1) }

/-- The panel after the complete frames of a trace; after one that is not well formed, which GW-CORE never leaves, the panel before any
frame (DESIGN CHOICE, log 22). -/
def panelOf (c : Config) (w : List Event) : Panel := (framesOf w).foldl (panelReceive c) panelUnknown

end Sys2Proof.Machine
end

