-- ==== Sys2Proof/Machine/Timing.lean ====
section
/-! DEFINITION. The timing the spec states, as functions and predicates over times in nanoseconds. No rule of the model depends on it
and the state holds no time (70_reset_and_hazards.md R236 to R238, R246; log 14). -/

namespace Sys2Proof.Machine

/-- 8 * n / F_SCLK: the time to shift `n` bytes out at the fastest (70_reset_and_hazards.md R246; 42_framer_primitives.md R185), in whole
nanoseconds, rounded down where F_SCLK does not divide evenly (DESIGN CHOICE, log 4). -/
def shiftTime (c : Config) (n : Nat) : Nat := 8 * n * 1000000000 / c.fSclk

/-- The lower bound on the duration of a frame of `n` bytes (70_reset_and_hazards.md R246), less than 1 ns below the spec's where shiftTime
rounds (log 4). -/
def minDuration (c : Config) (n : Nat) : Nat := c.tCsSetup + shiftTime c n + c.tCsHold

/-- The polarity duty between the CS_ASSERT events at the times `ts`, oldest first: consecutive ones at most T_VCOM_MAX apart
(70_reset_and_hazards.md R238). A duty of the host, not of the block. -/
def heartbeatMet : List Nat → Bool
  | [] => true
  | [_] => true
  | a :: b :: rest => decide (b - a ≤ Config.tVcomMax) && heartbeatMet (b :: rest)

/-- The duty at the time `now`: also the last CS_ASSERT is at most T_VCOM_MAX ago (R238). -/
def heartbeatMetAt (ts : List Nat) (now : Nat) : Bool := heartbeatMet (ts ++ [now])

end Sys2Proof.Machine
end

