-- ==== Sys2Proof/Safety.lean ====
section
/-! DEFINITION. What counts as a safe run: the invariant of the machine's states, the end of a run, and the relations between states
that the whole-machine rules speak of. -/

namespace Sys2Proof.Machine

/-- A frame GW-CORE emits: F.CLEAR, F.TOGGLE or F.WRITE of some framebuffer contents (30_encoding.md R84 to R87, R95). -/
def FrameShape (c : Config) (f : List Byte) : Prop := ∃ k m m1, f = frameOf c m k m1

/-- The trace of a state (10_state.md R39, R40; 41_transport_ops.md R145, R152): it is well formed and ends at the level of CS, it has
one complete frame for each transmission counted, each of a shape of 30_encoding.md, with M1 alternating from 0, and the open frame is
what the sequencer's position says has been sent. -/
structure TraceInv (s : State) (v : TraceView) : Prop where
  reads : readTrace s.wire = some v
  pin : v.pin = s.cs
  count : v.done.length = s.ntx
  shapes : ∀ f ∈ v.done, FrameShape s.cfg f
  alternates : ∀ i f, v.done[i]? = some f → frameM1 f = decide (i % 2 = 1)
  opened : s.seq.phase ≠ .idle → v.cur = (frameOf s.cfg s.fb s.kind s.m1l).take (seqOffset s.cfg s.kind s.seq)

/-- The invariant of GW-CORE's states. -/
structure Inv (s : State) : Prop where
  /-- FB keeps its canonical form, and holds no address outside 0 .. FB_BYTES - 1 (20_memory.md R63, R64). -/
  memWf : s.fb.wf = true
  memBound : ∀ c ∈ s.fb, c.1 < fbBytesOf s.cfg
  /-- VCOM = NTX mod 2 (10_state.md R39; 41_transport_ops.md R152). -/
  polarity : s.init = true → s.vcom = decide (s.ntx % 2 = 1)
  /-- Before the first successful BEGIN nothing has been transmitted (10_state.md R27, R39). -/
  untouched : s.init = false → s.ntx = 0 ∧ s.seq.phase = .idle
  /-- Outside a transmission the sequencer is at (IDLE, 0, 0, 0) and BUSY = 0; inside one BUSY = 1 (10_state.md R24, R28). -/
  idlePos : s.seq.phase = .idle → s.seq = Seq.idlePos ∧ s.busy = false ∧ s.inBegin = false
  running : s.seq.phase ≠ .idle → s.busy = true ∧ s.seq.bit = 0 ∧ seqInRange s.cfg s.seq = true ∧ s.m1l = s.vcom
  /-- Rows are sent only by a WRITE transmission (42_framer_primitives.md R180). -/
  rowsOfWrite : s.seq.phase = .addr ∨ s.seq.phase = .data ∨ s.seq.phase = .rowTrail → s.kind = .write
  /-- CS is 1 exactly inside an envelope, and driven once INIT = 1 (10_state.md R29; 60_exceptions.md R214 OB1). -/
  csHigh : s.cs = .high ↔ s.seq.phase ≠ .idle
  csDriven : s.init = true → s.cs ≠ .z
  /-- SCLK rests at its CPOL level once the bus is acquired (10_state.md R30; 92_eei_decisions.md D23). -/
  clockRests : s.init = true → s.sclk = levelOf s.cfg.cpol
  trace : ∃ v, TraceInv s v

/-- The end of a run: the last operation issued has completed (70_reset_and_hazards.md R235). The words still in the list `host` are
operations not issued yet and no part of the run so far, so this also holds between two operations of a loaded program: the spec has no
such list and does not say (DESIGN CHOICE, log 1). -/
def RunEnded (s : State) : Prop :=
  s.busy = false ∧ s.seq = Seq.idlePos ∧ (s.init = true → s.cs = .low)

/-- The lifecycle state READY: initialised and not busy (60_exceptions.md R212). -/
def State.Ready (s : State) : Prop := s.init = true ∧ s.busy = false

/-- Two states that agree but for what the serial mode and the bit-order strategy can touch: the parameters BITORDER_STRATEGY, F_SCLK,
CPOL, CPHA, the margins, and SHIFT, SCLK (42_framer_primitives.md R174, R185; 92_eei_decisions.md D4, D6, D7). -/
def SameButSerialMode (s t : State) : Prop :=
  t = { s with
    cfg := { s.cfg with bitOrder := t.cfg.bitOrder, fSclkLessOne := t.cfg.fSclkLessOne, cpol := t.cfg.cpol, cpha := t.cfg.cpha,
                        tCsSetupLessOne := t.cfg.tCsSetupLessOne, tCsHoldLessOne := t.cfg.tCsHoldLessOne },
    shift := t.shift, sclk := t.sclk }

/-- Two states that agree but for what is unspecified before the first successful BEGIN and that it overwrites: FB, VCOM, and NTX
(10_state.md R42; 70_reset_and_hazards.md R230). -/
def SameButUnwritten (s t : State) : Prop := t = { s with fb := t.fb, vcom := t.vcom, ntx := t.ntx }

/-- Two states that agree but for the latches whose value no host operation reads: the operand and result latches, SHIFT, KIND, M1L, and
the levels of SCLK and MOSI (10_state.md R22, R24, R38). -/
def SameButLatches (s t : State) : Prop :=
  t = { s with opx := t.opx, opy := t.opy, opv := t.opv, res := t.res, rowRes := t.rowRes, ok := t.ok, shift := t.shift,
               kind := t.kind, m1l := t.m1l, sclk := t.sclk, mosi := t.mosi }

/-- Two outcomes of a step alike: next states that `R` relates, or the same fault, or the same refusal. -/
def ResultRel (R : State → State → Prop) : Result → Result → Prop
  | .next a, .next b => R a b
  | .fault e, .fault f => e = f
  | .refused q, .refused r => q = r
  | _, _ => False

/-- The nine host operations (00_scope.md R2), as against the wire command bytes. -/
def isHostOp : Instr → Bool
  | .wWrite _ => false
  | .wClear _ => false
  | .wToggle _ => false
  | _ => true

/-- The operation that transmits a frame of each kind (41_transport_ops.md R146 to R148). -/
def txOp : Kind → Instr
  | .clear => .txClear
  | .write => .txFrame
  | .toggle => .txToggle

/-- `n` steps, stopping at the first fault or refusal. -/
def runSteps : Nat → State → Result
  | 0, s => .next s
  | n + 1, s =>
    match step s with
    | .next t => runSteps n t
    | .fault e => .fault e
    | .refused r => .refused r

end Sys2Proof.Machine
end

