-- ==== Sys2Proof/Certificates/Slice0/Obligations.lean ====
section
/-! DEFINITION. The statements for the provers. Each docstring names the rule of spec/ it formalises. A statement about a free value
(MOSI, the environment's answers) holds for every value of it. -/

open Sys2Proof Sys2Proof.Machine

/-! Encodings -/

/-- Decoding the encoding of an instruction gives it back, for every operand value; the pseudo-operation CLEAR gives its expansion, FILL 0
(30_encoding.md R82, R84, R99). -/
def Obligations.DecodeOfEncodeIsTheInstruction : Prop :=
  ∀ i : Instr, decode (encode i) = .ok (expand i) ∧ (i.wellFormed = true → expand i = i)

/-- What a word decodes to encodes back: a wire byte to itself, a host word to one with the same operation code that decodes alike (the
fields an operation does not use are ignored, 30_encoding.md R81). -/
def Obligations.DecodedWordsEncodeBack : Prop :=
  ∀ (u : Word) (i : Instr), decode u = .ok i →
    i.wellFormed = true ∧
    (∀ b, u = .wire b → encode i = u) ∧
    (∀ w, u = .host w → ∃ w', encode i = .host w' ∧ opField w' = opField w ∧ rsvField w' = rsvField w ∧ decodeHost w' = .ok i)

/-- Words of the spec's table and of its vectors B10 decode to the instructions the spec says. -/
def Obligations.SpecWordsDecode : Prop :=
  decode (.host 0x1000000000#40) = .ok .beginOp ∧
  decode (.host 0x10FFFFFFFF#40) = .ok .beginOp ∧
  decode (.host 0x2100050005#40) = .ok (.setPixel 5#16 5#16 true) ∧
  decode (.host 0x30000B0002#40) = .ok (.getPixel 11#16 2#16) ∧
  decode (.host 0x4100000000#40) = .ok (.fill true) ∧
  decode (.host 0x4000000000#40) = .ok (.fill false) ∧
  decode (.host 0x5000000044#40) = .ok (.rowBytes 68#16) ∧
  decode (.host 0x8000000000#40) = .ok .txClear ∧
  decode (.host 0x9000000000#40) = .ok .txFrame ∧
  decode (.host 0xA000000000#40) = .ok .txToggle ∧
  decode (.host 0x2200000000#40) = .error .reservedOp ∧
  decode (.wire 0x03#8) = .ok (.wWrite true) ∧
  decode (.wire 0x04#8) = .ok (.wClear false) ∧
  decode (.wire 0x02#8) = .ok (.wToggle true) ∧
  decode (.wire 0x05#8) = .error .neverEmitted

/-- 30_encoding.md R96: the reserved words, and that the port refuses them with ReservedOp, whatever INIT is; a refusal has no next state. -/
def Obligations.ReservedHostWordsAreRefused : Prop :=
  ∀ w : HostWord,
    (decodeHost w = .error .reservedOp ↔
      (opField w ∈ [0x0#4, 0x6#4, 0x7#4, 0xB#4, 0xC#4, 0xD#4, 0xE#4, 0xF#4] ∨ rsvField w ≠ 0#3)) ∧
    ∀ (s : State) (rest : List HostWord), s.host = w :: rest → s.seq.phase = .idle → s.busy = false →
      (opField w ∈ [0x0#4, 0x6#4, 0x7#4, 0xB#4, 0xC#4, 0xD#4, 0xE#4, 0xF#4] ∨ rsvField w ≠ 0#3) →
      step s = .refused .reservedOp

/-- 30_encoding.md R92: how a coordinate field is read, that 0xFFFF is out of range, and that each operation with operands loads its
latches from bits 31:16, 15:0 and 32 of its word, unscaled. -/
def Obligations.OperandsAreFieldsOfTheWord : Prop :=
  (∀ f : Coord, f.toInt = if f.toNat < 0x8000 then (f.toNat : Int) else (f.toNat : Int) - 0x10000) ∧
  (∀ (c : Config) (f : Coord), pixelInRange c 0xFFFF#16 f = false ∧ pixelInRange c f 0xFFFF#16 = false) ∧
  ∀ (s : State) (w : HostWord) (rest : List HostWord), s.host = w :: rest → s.seq.phase = .idle → s.init = true →
    s.busy = false → rsvField w = 0#3 →
    (opField w = 0x2#4 → ∃ t, step s = .next t ∧ t.opx = w.extractLsb' 16 16 ∧ t.opy = w.extractLsb' 0 16 ∧ t.opv = w.getLsbD 32) ∧
    (opField w = 0x3#4 → ∃ t, step s = .next t ∧ t.opx = w.extractLsb' 16 16 ∧ t.opy = w.extractLsb' 0 16) ∧
    (opField w = 0x4#4 → ∃ t, step s = .next t ∧ t.opv = w.getLsbD 32) ∧
    (opField w = 0x5#4 → coordInRange (w.extractLsb' 0 16) s.cfg.height = true →
      ∃ t, step s = .next t ∧ t.opy = w.extractLsb' 0 16)

/-- The six command bytes (30_encoding.md R83, R84): what each bit of one is, that they are the six of the table, and that exactly they
decode. -/
def Obligations.WireCommandsAreSixBytes : Prop :=
  (∀ k m1, (cmdByte k m1).getLsbD 0 = decide (k = .write) ∧ (cmdByte k m1).getLsbD 1 = m1 ∧
    (cmdByte k m1).getLsbD 2 = decide (k = .clear) ∧ (cmdByte k m1).extractLsb' 3 5 = 0#5) ∧
  cmdByte .toggle false = 0x00#8 ∧ cmdByte .toggle true = 0x02#8 ∧
  cmdByte .write false = 0x01#8 ∧ cmdByte .write true = 0x03#8 ∧
  cmdByte .clear false = 0x04#8 ∧ cmdByte .clear true = 0x06#8 ∧
  (∀ k m1, decodeWire (cmdByte k m1) = .ok (wireInstr k m1) ∧ encode (wireInstr k m1) = .wire (cmdByte k m1)) ∧
  (∀ b : Byte, (∃ i, decodeWire b = .ok i) ↔ b ∈ [0x00#8, 0x02#8, 0x01#8, 0x03#8, 0x04#8, 0x06#8])

/-- A step runs the instruction its word decodes to: at an idle sequencer the head of the host's list, taken from it, whole or, when the
state says so, in the stepwise form (log 2); in CMD the wire command of the running transmission; with nothing to issue the block does
nothing (log 1). -/
def Obligations.StepRunsTheDecodedInstruction : Prop :=
  (∀ (s : State) (w : HostWord) (rest : List HostWord) (i : Instr),
    s.host = w :: rest → s.seq.phase = .idle → s.busy = false → decode (.host w) = .ok i →
    (s.stepwise = false → step s = exec i { s with host := rest }) ∧
    (s.stepwise = true → step s = startOp i { s with host := rest })) ∧
  (∀ s : State, s.seq.phase = .cmd → step s = exec (wireInstr s.kind s.m1l) s) ∧
  (∀ s : State, s.host = [] → s.seq.phase = .idle → step s = .next s)

/-- The assembler gives back the host operation a line was written from (30_encoding.md R98; coordinates are written in decimal, so the
choice of log 12 on hexadecimal ones has no part in it). -/
def Obligations.AssemblerRoundTrip : Prop :=
  ∀ i : Instr, (isHostOp i = true ↔ (disassemble i).isSome = true) ∧
    ∀ m ops, disassemble i = some (m, ops) → assemble m ops = some i

/-! Parameters and reset -/

/-- 00_scope.md R7: exactly the parameters within its bounds make an instance; the others are refused with BadConfig; an instance has the
parameters it was built from, and its largest row address fits a byte. -/
def Obligations.OnlyWellFormedParametersMakeAnInstance : Prop :=
  (∀ r : RawConfig,
    (r.wellFormed = true ↔ 1 ≤ r.width ∧ 1 ≤ r.height ∧ r.height ≤ 255 ∧ r.width ≤ 2 ^ 15 - 1 ∧ r.height ≤ 2 ^ 15 - 1 ∧
      0 < r.fSclk ∧ r.fSclk ≤ 2000000 ∧ 0 < r.tCsSetup ∧ 0 < r.tCsHold) ∧
    (r.wellFormed = false → construct r = .refused .badConfig) ∧
    (r.wellFormed = true → ∃ c, construct r = .next (State.resetOf c) ∧ c.width = r.width ∧ c.height = r.height ∧
      c.packOrder = r.packOrder ∧ c.perRowTrailer = r.perRowTrailer ∧ c.bitOrder = r.bitOrder ∧ c.fSclk = r.fSclk ∧
      c.cpol = r.cpol ∧ c.cpha = r.cpha ∧ c.tCsSetup = r.tCsSetup ∧ c.tCsHold = r.tCsHold)) ∧
  ∀ c : Config, 1 ≤ c.width ∧ c.width ≤ 32767 ∧ 1 ≤ c.height ∧ c.height ≤ 255 ∧ (addrByte (c.height - 1)).toNat = c.height

/-- The reset values the spec states (10_state.md R42), for every instance. -/
def Obligations.ResetLeavesTheStatedValues : Prop :=
  ∀ c : Config, (State.resetOf c).init = false ∧ (State.resetOf c).busy = false ∧ (State.resetOf c).cs = .z ∧
    (State.resetOf c).seq = { phase := .idle, row := 0, idx := 0, bit := 0 } ∧
    (State.resetOf c).ntx = 0 ∧ (State.resetOf c).wire = [] ∧ (State.resetOf c).cfg = c ∧
    State.reset = State.resetOf State.reset.cfg

/-! FrameBuffer operations -/

/-- 20_memory.md R53: the bit position under both packing orders, and which bit the first and the last column of a byte are. -/
def Obligations.ColumnsHaveTheirBitPosition : Prop :=
  (∀ x, bitpos .msbFirst x = 7 - x % 8 ∧ bitpos .lsbFirst x = x % 8) ∧
  (∀ p x, bitpos p x < 8) ∧
  (∀ k, bitpos .msbFirst (8 * k) = 7 ∧ bitpos .msbFirst (8 * k + 7) = 0 ∧
    bitpos .lsbFirst (8 * k) = 0 ∧ bitpos .lsbFirst (8 * k + 7) = 7)

/-- The address map stays inside FB and sends different pixels to different bits (20_memory.md R52, R64; 10_state.md R43), and ROW_BYTES
is the ceiling of WIDTH / 8 (20_memory.md R68). -/
def Obligations.PixelMapIsBoundedAndInjective : Prop :=
  ∀ c : Config,
    8 * rowBytesOf c < c.width + 8 ∧ c.width ≤ 8 * rowBytesOf c ∧
    (∀ x y, x < c.width → y < c.height → pixelAddr c x y < fbBytesOf c) ∧
    ∀ p x y x' y', x < c.width → y < c.height → x' < c.width → y' < c.height →
      pixelAddr c x y = pixelAddr c x' y' → bitpos p x = bitpos p x' → x = x' ∧ y = y'

/-- 40_framebuffer_ops.md R110, SETPIXEL: its word; it is refused while INIT = 0; else it completes, loads its latches, and changes in FB
exactly the bit of the pixel, or nothing out of range; nothing else of the state changes. -/
def Obligations.SetPixelChangesExactlyItsBit : Prop :=
  ∀ (s : State) (x y : Coord) (v : Bool),
    encode (.setPixel x y v) =
      .host (0x2000000000#40 ||| (BitVec.ofBool v).setWidth 40 <<< 32 ||| x.setWidth 40 <<< 16 ||| y.setWidth 40) ∧
    (s.busy = false → s.init = false → exec (.setPixel x y v) s = .refused .notInitialised) ∧
    (s.init = true → s.busy = false →
      ∃ m, exec (.setPixel x y v) s = .next { s with opx := x, opy := y, opv := v, fb := m } ∧
        (¬(0 ≤ x.toInt ∧ x.toInt < s.cfg.width ∧ 0 ≤ y.toInt ∧ y.toInt < s.cfg.height) → m = s.fb) ∧
        (0 ≤ x.toInt → x.toInt < s.cfg.width → 0 ≤ y.toInt → y.toInt < s.cfg.height → s.fb.wf = true → ∀ a k, k < 8 →
          (m.read a).getLsbD k =
            if a = y.toInt.toNat * rowBytesOf s.cfg + x.toInt.toNat / 8 ∧ k = bitpos s.cfg.packOrder x.toInt.toNat then v
            else (s.fb.read a).getLsbD k))

/-- 40_framebuffer_ops.md R111, GETPIXEL: its word, of which v is ignored; it is refused while INIT = 0; else it completes with RES the
stored bit, or 0 out of range; nothing else changes but its latches. -/
def Obligations.GetPixelReturnsTheStoredBit : Prop :=
  ∀ (s : State) (x y : Coord),
    encode (.getPixel x y) = .host (0x3000000000#40 ||| x.setWidth 40 <<< 16 ||| y.setWidth 40) ∧
    (∀ v, decode (.host (hostWord 0x3#4 v x y)) = .ok (.getPixel x y)) ∧
    (s.busy = false → s.init = false → exec (.getPixel x y) s = .refused .notInitialised) ∧
    (s.init = true → s.busy = false →
      exec (.getPixel x y) s =
        .next { s with
          opx := x, opy := y,
          res :=
            if 0 ≤ x.toInt ∧ x.toInt < s.cfg.width ∧ 0 ≤ y.toInt ∧ y.toInt < s.cfg.height then
              (s.fb.read (y.toInt.toNat * rowBytesOf s.cfg + x.toInt.toNat / 8)).getLsbD (bitpos s.cfg.packOrder x.toInt.toNat)
            else false })

/-- 20_memory.md R58: the signed range test; out of range SETPIXEL writes nothing and GETPIXEL returns 0, and neither is an error. -/
def Obligations.OutOfRangePixelsAreNoOps : Prop :=
  (∀ (c : Config) (x y : Coord), pixelInRange c x y = true ↔
    0 ≤ x.toInt ∧ x.toInt < c.width ∧ 0 ≤ y.toInt ∧ y.toInt < c.height) ∧
  ∀ (s : State) (x y : Coord) (v : Bool), s.init = true → s.busy = false → pixelInRange s.cfg x y = false →
    (∃ t, exec (.setPixel x y v) s = .next t ∧ t.fb = s.fb) ∧
    (∃ t, exec (.getPixel x y) s = .next t ∧ t.res = false ∧ t.fb = s.fb)

/-- 40_framebuffer_ops.md R112, FILL: its word, of which x and y are ignored; it is refused while INIT = 0; else it completes with every
byte of FB 0xFF or 0x00, padding bits included; nothing else changes but OPV. -/
def Obligations.FillWritesEveryByte : Prop :=
  ∀ (s : State) (v : Bool),
    encode (.fill v) = .host (0x4000000000#40 ||| (BitVec.ofBool v).setWidth 40 <<< 32) ∧
    (∀ x y, decode (.host (hostWord 0x4#4 v x y)) = .ok (.fill v)) ∧
    (s.busy = false → s.init = false → exec (.fill v) s = .refused .notInitialised) ∧
    (s.init = true → s.busy = false →
      ∃ m, exec (.fill v) s = .next { s with opv := v, fb := m } ∧
        ∀ a, m.read a = if a < fbBytesOf s.cfg then (if v then 0xFF#8 else 0x00#8) else s.fb.read a)

/-- 40_framebuffer_ops.md R113, CLEAR: it is FILL 0, in every state, and has its word; it is refused while INIT = 0; else it completes
with FB all zero, sends nothing and does not flip VCOM; FB is then what TXCLEAR leaves. -/
def Obligations.ClearIsFillZero : Prop :=
  encode .clear = .host 0x4000000000#40 ∧ encode .clear = encode (.fill false) ∧
  (∀ s : State, exec .clear s = exec (.fill false) s) ∧
  (∀ s : State, s.busy = false → s.init = false → exec .clear s = .refused .notInitialised) ∧
  ∀ s : State, s.init = true → s.busy = false →
    ∃ m t, exec .clear s = .next { s with opv := false, fb := m } ∧ (∀ a, a < fbBytesOf s.cfg → m.read a = 0x00#8) ∧
      exec .txClear s = .next t ∧ t.fb = m

/-- ROWBYTES (40_framebuffer_ops.md R114): its word; it is refused while INIT = 0; it completes for a row in range with the ROW_BYTES
bytes of the row as stored (that rowRes, a field of its own beside RES, holds them is the model's choice, DEDUCED, log 9), and refuses
any other row with RowOutOfRange. -/
def Obligations.RowBytesReturnsTheRow : Prop :=
  ∀ (s : State) (y : Coord),
    encode (.rowBytes y) = .host (0x5000000000#40 ||| y.setWidth 40) ∧
    (s.busy = false → s.init = false → exec (.rowBytes y) s = .refused .notInitialised) ∧
    (s.init = true → s.busy = false →
      (0 ≤ y.toInt → y.toInt < s.cfg.height →
        exec (.rowBytes y) s =
          .next { s with
            opy := y,
            rowRes := (List.range (rowBytesOf s.cfg)).map fun i => s.fb.read (y.toInt.toNat * rowBytesOf s.cfg + i) }) ∧
      (y.toInt < 0 ∨ (s.cfg.height : Int) ≤ y.toInt → exec (.rowBytes y) s = .refused .rowOutOfRange))

/-- The five laws of 40_framebuffer_ops.md R116. -/
def Obligations.FrameBufferLaws : Prop :=
  ∀ (s : State), s.init = true → s.busy = false → s.fb.wf = true →
    (∀ x y v, pixelInRange s.cfg x y = true →
      ∃ t u, exec (.setPixel x y v) s = .next t ∧ exec (.getPixel x y) t = .next u ∧ u.res = v) ∧
    (∀ x y v, pixelInRange s.cfg x y = false → ∃ t, exec (.setPixel x y v) s = .next t ∧ t.fb = s.fb) ∧
    (∀ x y v, pixelInRange s.cfg x y = true →
      ∃ t u, exec (.fill v) s = .next t ∧ exec (.getPixel x y) t = .next u ∧ u.res = v) ∧
    (∀ x y v x' y', pixelInRange s.cfg x y = true → pixelInRange s.cfg x' y' = true → (x, y) ≠ (x', y') →
      ∃ t u w, exec (.setPixel x y v) s = .next t ∧ exec (.getPixel x' y') t = .next u ∧ exec (.getPixel x' y') s = .next w ∧
        u.res = w.res) ∧
    (∀ x y v x' y' v', pixelInRange s.cfg x y = true → pixelInRange s.cfg x' y' = true →
      ∃ t u t' u', exec (.setPixel x y v) s = .next t ∧ exec (.setPixel x' y' v') t = .next u ∧
        exec (.setPixel x' y' v') s = .next t' ∧ exec (.setPixel x y v) t' = .next u' ∧
        ((x, y) ≠ (x', y') → u.fb = u'.fb) ∧ ((x, y) = (x', y') → u.fb = t'.fb))

/-- A bit that is no pixel's (a padding bit, 20_memory.md R54) keeps its value under SETPIXEL and takes v under FILL v (10_state.md R23;
92_eei_decisions.md D25). -/
def Obligations.PaddingBitsAreRealStorage : Prop :=
  ∀ (s : State) (a k : Nat), s.init = true → s.busy = false → s.fb.wf = true → a < fbBytesOf s.cfg → k < 8 →
    (∀ x y, x < s.cfg.width → y < s.cfg.height → ¬(pixelAddr s.cfg x y = a ∧ bitpos s.cfg.packOrder x = k)) →
    (∀ x y v, ∃ t, exec (.setPixel x y v) s = .next t ∧ (t.fb.read a).getLsbD k = (s.fb.read a).getLsbD k) ∧
    (∀ v, ∃ t, exec (.fill v) s = .next t ∧ (t.fb.read a).getLsbD k = v)

/-- A pixel is read alike by GETPIXEL and in the bytes ROWBYTES returns (20_memory.md R56). -/
def Obligations.PixelsAndRowBytesAgree : Prop :=
  ∀ (s : State) (x y : Coord), s.init = true → s.busy = false → pixelInRange s.cfg x y = true →
    ∃ t u b, exec (.getPixel x y) s = .next t ∧ exec (.rowBytes y) s = .next u ∧
      u.rowRes.length = rowBytesOf s.cfg ∧ u.rowRes[coordNat x / 8]? = some b ∧ b.getLsbD (operandBit s.cfg x) = t.res

/-- SETPIXEL, FILL, GETPIXEL and ROWBYTES twice with the same operands leave the state they leave once, and the last two leave FB
(20_memory.md R62). -/
def Obligations.PixelWritesAreIdempotent : Prop :=
  ∀ (s : State), s.init = true → s.busy = false → s.fb.wf = true →
    (∀ x y v, ∃ t, exec (.setPixel x y v) s = .next t ∧ exec (.setPixel x y v) t = .next t) ∧
    (∀ v, ∃ t, exec (.fill v) s = .next t ∧ exec (.fill v) t = .next t) ∧
    (∀ x y, ∃ t, exec (.getPixel x y) s = .next t ∧ exec (.getPixel x y) t = .next t ∧ t.fb = s.fb) ∧
    (∀ y, coordInRange y s.cfg.height = true →
      ∃ t, exec (.rowBytes y) s = .next t ∧ exec (.rowBytes y) t = .next t ∧ t.fb = s.fb)

/-! Refusals -/

/-- While INIT = 0 every host operation but BEGIN is refused with NotInitialised, before its operands are looked at (10_state.md R27;
60_exceptions.md R203 REF1, R209). -/
def Obligations.NothingRunsBeforeBegin : Prop :=
  ∀ (i : Instr) (s : State), isHostOp i = true → i ≠ .beginOp → s.busy = false → s.init = false →
    exec i s = .refused .notInitialised

/-- While BUSY = 1 every host operation is refused with Busy, and the port refuses before it decodes (10_state.md R28; 60_exceptions.md
R203 REF4, R209). -/
def Obligations.BusyPortRefuses : Prop :=
  (∀ (i : Instr) (s : State), isHostOp i = true → s.busy = true → exec i s = .refused .busy) ∧
  ∀ (s : State) (w : HostWord) (rest : List HostWord), s.host = w :: rest → s.seq.phase = .idle → s.busy = true →
    step s = .refused .busy

/-! BEGIN -/

/-- The first BEGIN, when acquisition succeeds (41_transport_ops.md R140; 70_reset_and_hazards.md R233): INIT 1, VCOM 1, NTX 1, CS 0, FB
all zero, OK 1, the clear frame 04 00 after CS_CONFIG; nothing else changes but the latches of a transmission, SCLK, MOSI and the
environment's answers. -/
def Obligations.FirstBeginInitialises : Prop :=
  ∀ s : State, s.busy = false → s.init = false → s.acqAnswer.acqOk = true →
    ∃ t, exec .beginOp s = .next t ∧
      t.wire = s.wire ++ [.csConfig, .csAssert, .byte 0x04#8, .byte 0x00#8, .csDeassert] ∧
      (∀ a, t.fb.read a = if a < fbBytesOf s.cfg then 0x00#8 else s.fb.read a) ∧
      t = { s with
            init := true, vcom := true, ntx := 1, cs := .low, ok := true, seq := Seq.idlePos, env := s.env.tail,
            sclk := levelOf s.cfg.cpol, fb := t.fb, wire := t.wire, draws := t.draws, mosi := t.mosi, shift := t.shift,
            kind := .clear, m1l := false }

/-- A repeated BEGIN, when acquisition succeeds (41_transport_ops.md R141): the clear frame carries the current VCOM, which then flips and
is not initialised again; NTX counts on (one of the two choices 92_eei_decisions.md D14 allows, log 18). -/
def Obligations.RepeatedBeginKeepsPolarity : Prop :=
  ∀ s : State, s.busy = false → s.init = true → s.acqAnswer.acqOk = true →
    ∃ t, exec .beginOp s = .next t ∧
      t.wire = s.wire ++ [.csConfig, .csAssert, .byte (if s.vcom then 0x06#8 else 0x04#8), .byte 0x00#8, .csDeassert] ∧
      (∀ a, t.fb.read a = if a < fbBytesOf s.cfg then 0x00#8 else s.fb.read a) ∧
      t = { s with
            vcom := !s.vcom, ntx := s.ntx + 1, cs := .low, ok := true, seq := Seq.idlePos, env := s.env.tail,
            sclk := levelOf s.cfg.cpol, fb := t.fb, wire := t.wire, draws := t.draws, mosi := t.mosi, shift := t.shift,
            kind := .clear, m1l := s.vcom }

/-- A BEGIN whose acquisition fails (41_transport_ops.md R142; 60_exceptions.md R201, R210): OK 0, nothing sent, FB, VCOM, INIT and NTX as
before; CS unchanged, or low with CS_CONFIG, as the environment has it (that SCLK and MOSI stay is DEDUCED, log 16). -/
def Obligations.FailedBeginSendsNothing : Prop :=
  ∀ s : State, s.busy = false → s.acqAnswer.acqOk = false →
    exec .beginOp s =
      .next { s with
        ok := false, env := s.env.tail, draws := s.draws + 1,
        cs := if s.acqAnswer.csConfigured then .low else s.cs,
        wire := if s.acqAnswer.csConfigured then s.wire ++ [.csConfig] else s.wire }

/-! Transmissions -/

/-- 41_transport_ops.md R146, TXCLEAR: its word; refused while INIT = 0; else the frame 04 00 or 06 00 in one envelope, VCOM flipped, NTX
counted, FB all zero; nothing else changes but the latches of a transmission, SCLK and MOSI. -/
def Obligations.ClearTransmissionEffect : Prop :=
  encode .txClear = .host 0x8000000000#40 ∧
  (∀ s : State, s.busy = false → s.init = false → exec .txClear s = .refused .notInitialised) ∧
  ∀ s : State, s.init = true → s.busy = false →
    ∃ t, exec .txClear s = .next t ∧
      t.wire = s.wire ++ [.csAssert, .byte (if s.vcom then 0x06#8 else 0x04#8), .byte 0x00#8, .csDeassert] ∧
      (∀ a, t.fb.read a = if a < fbBytesOf s.cfg then 0x00#8 else s.fb.read a) ∧
      t = { s with
            vcom := !s.vcom, ntx := s.ntx + 1, cs := .low, seq := Seq.idlePos, sclk := levelOf s.cfg.cpol,
            fb := t.fb, wire := t.wire, draws := t.draws, mosi := t.mosi, shift := t.shift, kind := .clear, m1l := s.vcom }

/-- 41_transport_ops.md R147, TXFRAME: its word; refused while INIT = 0; else command byte, then each row in ascending order, its address
y + 1, its bytes as stored, a zero where the instance has a row trailer, then the final zero, in one envelope; VCOM flipped, NTX
counted, FB unchanged; nothing else changes but the latches of a transmission, SCLK and MOSI. -/
def Obligations.FullFrameTransmissionEffect : Prop :=
  encode .txFrame = .host 0x9000000000#40 ∧
  (∀ s : State, s.busy = false → s.init = false → exec .txFrame s = .refused .notInitialised) ∧
  ∀ s : State, s.init = true → s.busy = false →
    ∃ t, exec .txFrame s = .next t ∧
      t.wire = s.wire ++ [.csAssert, .byte (if s.vcom then 0x03#8 else 0x01#8)] ++
        ((List.range s.cfg.height).flatMap fun y =>
          .byte (BitVec.ofNat 8 (y + 1)) ::
            (((List.range (rowBytesOf s.cfg)).map fun i => .byte (s.fb.read (y * rowBytesOf s.cfg + i))) ++
              (if s.cfg.perRowTrailer then [.byte 0x00#8] else []))) ++
        [.byte 0x00#8, .csDeassert] ∧
      t = { s with
            vcom := !s.vcom, ntx := s.ntx + 1, cs := .low, seq := Seq.idlePos, sclk := levelOf s.cfg.cpol,
            wire := t.wire, draws := t.draws, mosi := t.mosi, shift := t.shift, kind := .write, m1l := s.vcom }

/-- 41_transport_ops.md R148, TXTOGGLE: its word; refused while INIT = 0; else the frame 00 00 or 02 00 in one envelope, VCOM flipped, NTX
counted; FB neither written nor read: the same happens with any other contents. -/
def Obligations.ToggleTransmissionEffect : Prop :=
  encode .txToggle = .host 0xA000000000#40 ∧
  (∀ s : State, s.busy = false → s.init = false → exec .txToggle s = .refused .notInitialised) ∧
  ∀ s : State, s.init = true → s.busy = false →
    ∃ t, exec .txToggle s = .next t ∧
      t.wire = s.wire ++ [.csAssert, .byte (if s.vcom then 0x02#8 else 0x00#8), .byte 0x00#8, .csDeassert] ∧
      t = { s with
            vcom := !s.vcom, ntx := s.ntx + 1, cs := .low, seq := Seq.idlePos, sclk := levelOf s.cfg.cpol,
            wire := t.wire, draws := t.draws, mosi := t.mosi, shift := t.shift, kind := .toggle, m1l := s.vcom } ∧
      ∀ m : Mem, exec .txToggle { s with fb := m } = .next { t with fb := m }

/-- 30_encoding.md R91: the length of every frame, from its first byte and the instance's constants, and the two lengths of the 160 by 68
instance. -/
def Obligations.FrameLengths : Prop :=
  (∀ c m k m1, (frameOf c m k m1).length =
    if (cmdByte k m1).getLsbD 0 then 1 + c.height * (1 + rowBytesOf c + (if c.perRowTrailer then 1 else 0)) + 1 else 2) ∧
  (∀ c m k m1, (frameOf c m k m1)[0]? = some (cmdByte k m1)) ∧
  ∀ c m m1, c.width = 160 → c.height = 68 →
    (writeFrame c m m1).length = if c.perRowTrailer then 1498 else 1430

/-- The layout of F.WRITE by offset (30_encoding.md R87, R88, R101): command, row addresses y + 1, payload bytes as stored, row trailers
where the instance has them, final trailer. -/
def Obligations.WriteFrameLayout : Prop :=
  ∀ (c : Config) (m : Mem) (m1 : Bool),
    (writeFrame c m m1)[0]? = some (if m1 then 0x03#8 else 0x01#8) ∧
    (∀ y, y < c.height →
      (∃ b, (writeFrame c m m1)[1 + y * rowStride c]? = some b ∧ b.toNat = y + 1) ∧
      (∀ i, i < rowBytesOf c → (writeFrame c m m1)[2 + y * rowStride c + i]? = some (m.read (y * rowBytesOf c + i))) ∧
      (c.perRowTrailer = true → (writeFrame c m m1)[2 + y * rowStride c + rowBytesOf c]? = some 0x00#8)) ∧
    (writeFrame c m m1)[1 + c.height * rowStride c]? = some 0x00#8 ∧
    (writeFrame c m m1).length = 2 + c.height * rowStride c

/-- 20_memory.md R70: the payload of row y in the frame a TXFRAME emits is MemRead of the row in the contents it was issued with, and FB
is still that when it completes. -/
def Obligations.FrameIsASnapshot : Prop :=
  ∀ s : State, s.init = true → s.busy = false →
    ∃ t bs, exec .txFrame s = .next t ∧ t.wire = s.wire ++ envelope bs ∧ t.fb = s.fb ∧
      ∀ y, y < s.cfg.height →
        (bs.drop (2 + y * rowStride s.cfg)).take (rowBytesOf s.cfg) = s.fb.readRange (y * rowBytesOf s.cfg) (rowBytesOf s.cfg)

/-- The end-to-end scenario of 41_transport_ops.md R152 item 5, for every instance and every pixel in range: FILL 0, SETPIXEL x, y, 1,
TXFRAME send a frame whose payload has exactly one set bit, that of the pixel. -/
def Obligations.OnePixelReachesTheWire : Prop :=
  ∀ (s : State) (x y : Coord), s.init = true → s.busy = false → s.fb.wf = true → pixelInRange s.cfg x y = true →
    ∃ t u w bs, exec (.fill false) s = .next t ∧ exec (.setPixel x y true) t = .next u ∧ exec .txFrame u = .next w ∧
      w.wire = s.wire ++ envelope bs ∧
      ∀ y' i k, y' < s.cfg.height → i < rowBytesOf s.cfg → k < 8 →
        ∃ b, bs[2 + y' * rowStride s.cfg + i]? = some b ∧
          b.getLsbD k = decide (y' = coordNat y ∧ i = coordNat x / 8 ∧ k = operandBit s.cfg x)

/-! Framer primitives -/

/-- REV8 (42_framer_primitives.md R171): bit i is bit 7 - i; an involution, so a bijection; the sixteen bytes it leaves; the values the
rule lists. -/
def Obligations.ReverseOfBits : Prop :=
  (∀ (b : Byte) (i : Nat), i < 8 → (rev8 b).getLsbD i = b.getLsbD (7 - i)) ∧
  (∀ b : Byte, rev8 (rev8 b) = b) ∧ Function.Bijective rev8 ∧
  (∀ b : Byte, rev8 b = b ↔ b ∈ [0x00#8, 0x18#8, 0x24#8, 0x3C#8, 0x42#8, 0x5A#8, 0x66#8, 0x7E#8,
    0x81#8, 0x99#8, 0xA5#8, 0xBD#8, 0xC3#8, 0xDB#8, 0xE7#8, 0xFF#8]) ∧
  (∀ b : Byte, (wireBits (rev8 b)).count true = (wireBits b).count true) ∧
  rev8 0xB0#8 = 0x0D#8 ∧ rev8 0x0D#8 = 0xB0#8 ∧ rev8 0x01#8 = 0x80#8 ∧ rev8 0x02#8 = 0x40#8 ∧ rev8 0x03#8 = 0xC0#8 ∧
  rev8 0x04#8 = 0x20#8 ∧ rev8 0x06#8 = 0x60#8 ∧ rev8 0x44#8 = 0x22#8

/-- The bits of a byte reach the wire least significant first, under both strategies and in all four serial modes
(42_framer_primitives.md R173, R174, R185; the meaning of the modes is PRESUMED, log 21): each has one pulse, away from the CPOL level
and back; with CPHA = 0 it is on MOSI before the first edge, which does not change MOSI; with CPHA = 1 the first edge puts it there and
the second does not change it; the receiver samples it. -/
def Obligations.BitsGoOutLeastSignificantFirst : Prop :=
  ∀ (s : State) (b : Byte) (k : Nat), k < 8 →
    ∃ t, t = (s.setUpByte b).shiftBits k ∧
      t.seq.bit.val = k ∧
      t.firstEdge.sclk = levelOf (!s.cfg.cpol) ∧ t.firstEdge.secondEdge.sclk = levelOf s.cfg.cpol ∧
      (s.cfg.cpha = false → t.mosi = levelOf (b.getLsbD k) ∧ t.firstEdge.mosi = t.mosi) ∧
      (s.cfg.cpha = true → t.firstEdge.mosi = levelOf (b.getLsbD k) ∧ t.firstEdge.secondEdge.mosi = t.firstEdge.mosi) ∧
      t.sampledLevel = levelOf (b.getLsbD k)

/-- SENDBYTE (42_framer_primitives.md R173): SHIFT holds the byte, or its reverse under REVERSE_SW; BIT is 0 again, SCLK at its idle
level, the event BYTE(b) emitted; nothing else changes but MOSI, which is free (log 6). -/
def Obligations.SendByteEffect : Prop :=
  ∀ (s : State) (b : Byte), ∃ p, s.sendByte b =
    { s with
      shift := if s.cfg.bitOrder = .reverseSw then rev8 b else b,
      seq := { s.seq with bit := 0 }, sclk := levelOf s.cfg.cpol, mosi := p, draws := s.draws + 1,
      wire := s.wire ++ [.byte b] }

/-! Wire commands and the sequencer -/

/-- The wire commands (41_transport_ops.md R149, R150, R151; 42_framer_primitives.md R180): in CMD of a transmission of their kind that
started with VCOM = v each completes: its byte is sent and the sequencer goes to ADDR, or to FINALTRAIL; nothing else changes but
SHIFT, SCLK and MOSI. -/
def Obligations.WireCommandsSendTheirByte : Prop :=
  ∀ (s : State) (v : Bool), s.cs = .high → s.seq.phase = .cmd → s.seq.bit = 0 → s.m1l = v →
    (s.kind = .write → ∃ t, exec (.wWrite v) s = .next t ∧
      t = { s with wire := s.wire ++ [.byte (if v then 0x03#8 else 0x01#8)], seq := { phase := .addr, row := 0, idx := 0, bit := 0 },
                   shift := t.shift, sclk := levelOf s.cfg.cpol, mosi := t.mosi, draws := t.draws }) ∧
    (s.kind = .clear → ∃ t, exec (.wClear v) s = .next t ∧
      t = { s with wire := s.wire ++ [.byte (if v then 0x06#8 else 0x04#8)],
                   seq := { phase := .finalTrail, row := 0, idx := 0, bit := 0 },
                   shift := t.shift, sclk := levelOf s.cfg.cpol, mosi := t.mosi, draws := t.draws }) ∧
    (s.kind = .toggle → ∃ t, exec (.wToggle v) s = .next t ∧
      t = { s with wire := s.wire ++ [.byte (if v then 0x02#8 else 0x00#8)],
                   seq := { phase := .finalTrail, row := 0, idx := 0, bit := 0 },
                   shift := t.shift, sclk := levelOf s.cfg.cpol, mosi := t.mosi, draws := t.draws })

/-- Anywhere else a wire command is refused by name: the model's choice (log 11). -/
def Obligations.WireCommandsOnlyInSequence : Prop :=
  ∀ (s : State) (k : Kind) (v : Bool),
    ¬(s.cs = .high ∧ s.seq.phase = .cmd ∧ s.seq.bit = 0 ∧ s.kind = k ∧ s.m1l = v) →
    exec (wireInstr k v) s = .refused .outOfSequence

/-- The start of a transmission in the stepwise form (42_framer_primitives.md R178): KIND, M1L <- VCOM, CS_ASSERT, SETUP, BUSY 1. -/
def Obligations.TransmissionStart : Prop :=
  ∀ (s : State) (k : Kind), s.init = true → s.busy = false →
    startOp (txOp k) s =
      .next { s with
        busy := true, kind := k, m1l := s.vcom, cs := .high, wire := s.wire ++ [.csAssert],
        seq := { phase := .setup, row := 0, idx := 0, bit := 0 } }

/-- 42_framer_primitives.md R181, R182 and R183: the transitions of ADDR, DATA and ROWTRAIL. -/
def Obligations.SequencerRowTransitions : Prop :=
  ∀ s : State, s.cs = .high → s.seq.bit = 0 →
    (s.seq.phase = .addr → s.seq.row < s.cfg.height →
      ∃ u, u = s.sendByte (BitVec.ofNat 8 (s.seq.row + 1)) ∧
        step s = .next { u with seq := { phase := .data, row := s.seq.row, idx := 0, bit := 0 } }) ∧
    (s.seq.phase = .data → s.seq.row < s.cfg.height → s.seq.idx < rowBytesOf s.cfg →
      ∃ u, u = s.sendByte (s.fb.read (s.seq.row * rowBytesOf s.cfg + s.seq.idx)) ∧
        step s = .next { u with
          seq :=
            if s.seq.idx + 1 < rowBytesOf s.cfg then { phase := .data, row := s.seq.row, idx := s.seq.idx + 1, bit := 0 }
            else if s.cfg.perRowTrailer then { phase := .rowTrail, row := s.seq.row, idx := 0, bit := 0 }
            else if s.seq.row + 1 < s.cfg.height then { phase := .addr, row := s.seq.row + 1, idx := 0, bit := 0 }
            else { phase := .finalTrail, row := 0, idx := 0, bit := 0 } }) ∧
    (s.seq.phase = .rowTrail → s.seq.row < s.cfg.height → s.cfg.perRowTrailer = true →
      ∃ u, u = s.sendByte 0x00#8 ∧
        step s = .next { u with
          seq :=
            if s.seq.row + 1 < s.cfg.height then { phase := .addr, row := s.seq.row + 1, idx := 0, bit := 0 }
            else { phase := .finalTrail, row := 0, idx := 0, bit := 0 } })

/-- The phases that wait and the end (42_framer_primitives.md R179, R184; no time passes in the model, log 14): SETUP goes on to CMD;
FINALTRAIL sends a zero byte; HOLD deasserts, flips VCOM, counts, zeroes FB of a clear, returns to IDLE and clears BUSY, and inside
BEGIN sets OK. -/
def Obligations.SequencerEndTransitions : Prop :=
  ∀ s : State, s.cs = .high → s.seq.bit = 0 →
    (s.seq.phase = .setup → step s = .next { s with seq := { phase := .cmd, row := 0, idx := 0, bit := 0 } }) ∧
    (s.seq.phase = .finalTrail →
      ∃ u, u = s.sendByte 0x00#8 ∧ step s = .next { u with seq := { phase := .hold, row := 0, idx := 0, bit := 0 } }) ∧
    (s.seq.phase = .hold →
      ∃ m, (∀ a, m.read a = if s.kind = .clear ∧ a < fbBytesOf s.cfg then 0x00#8 else s.fb.read a) ∧
        step s = .next { s with
          cs := .low, wire := s.wire ++ [.csDeassert], vcom := !s.vcom, ntx := s.ntx + 1, fb := m,
          seq := { phase := .idle, row := 0, idx := 0, bit := 0 }, busy := false,
          ok := if s.inBegin then true else s.ok, inBegin := false })

/-- 42_framer_primitives.md R186: a transmission run one transition a step, from its start to IDLE, leaves exactly the state the big-step
form leaves, after a number of steps fixed by its kind and the instance. -/
def Obligations.StepwiseTransmissionAgrees : Prop :=
  ∀ (s : State) (k : Kind), s.init = true → s.busy = false → s.inBegin = false →
    ∃ t, startOp (txOp k) s = .next t ∧ runSteps (frameLength s.cfg k + 2) t = exec (txOp k) s

/-- The same for BEGIN: its stepwise form, whatever the environment answers, ends in the state of the big-step form
(42_framer_primitives.md R184, R186). -/
def Obligations.StepwiseBeginAgrees : Prop :=
  ∀ s : State, s.busy = false → s.inBegin = false →
    (s.acqAnswer.acqOk = true →
      ∃ t, startOp .beginOp s = .next t ∧ runSteps (frameLength s.cfg .clear + 2) t = exec .beginOp s) ∧
    (s.acqAnswer.acqOk = false → startOp .beginOp s = exec .beginOp s)

/-! The machine as a whole -/

/-- The state after reset meets the invariant, for every instance. -/
def Obligations.ResetMeetsTheInvariant : Prop :=
  (∀ c : Config, Inv (State.resetOf c)) ∧ Inv State.reset

/-- Every step keeps the invariant: FB canonical and in its bounds, VCOM = NTX mod 2 (10_state.md R39), CS high exactly inside an envelope
(R29), SCLK at rest (R30), BUSY and the sequencer together (R24, R28), and the trace well formed, every frame of it one of the shapes
of 30_encoding.md (R95), its M1 bits alternating from 0 (41_transport_ops.md R145), and the open frame what the sequencer's position
says (30_encoding.md R101). -/
def Obligations.StepKeepsTheInvariant : Prop :=
  ∀ s t : State, Inv s → step s = .next t → Inv t

/-- In states that meet the invariant no step faults, and the only refusals are the spec's NotInitialised, ReservedOp and RowOutOfRange
(60_exceptions.md R200, R203). -/
def Obligations.NoFaultFromTheInvariant : Prop :=
  ∀ s : State, Inv s →
    (∃ t, step s = .next t) ∨ step s = .refused .notInitialised ∨ step s = .refused .reservedOp ∨ step s = .refused .rowOutOfRange

/-- A step only adds to the trace, never changes the instance's parameters (10_state.md R31) and never clears INIT (R27). Of the model's
own fields it never changes the flag `stepwise` (DESIGN CHOICE, log 2), and it leaves the host's list as it is or takes its first word
(DESIGN CHOICE, log 1). -/
def Obligations.TraceGrowsAndInitStays : Prop :=
  ∀ s t : State, step s = .next t →
    (∃ w, t.wire = s.wire ++ w) ∧ t.cfg = s.cfg ∧ t.stepwise = s.stepwise ∧ (s.init = true → t.init = true) ∧
    (t.host = s.host ∨ ∃ w, s.host = w :: t.host)

/-- Once INIT = 1, VCOM changes only with a transmission, by one flip, which the trace ends with CS_DEASSERT and NTX counts
(41_transport_ops.md R145). -/
def Obligations.OnlyTransmissionsFlipPolarity : Prop :=
  ∀ s t : State, step s = .next t → s.init = true →
    (t.vcom = s.vcom ∧ t.ntx = s.ntx) ∨
    (t.vcom = !s.vcom ∧ t.ntx = s.ntx + 1 ∧ ∃ w, t.wire = s.wire ++ w ++ [.csDeassert])

/-- The access matrix of 10_state.md R32 and the writers of R22 and R33: which operation may change which piece of state. -/
def Obligations.OnlyTheNamedWritersWrite : Prop :=
  ∀ (i : Instr) (s t : State), isHostOp i = true → exec i s = .next t →
    (t.res ≠ s.res → ∃ x y, i = .getPixel x y) ∧
    (t.ok ≠ s.ok → i = .beginOp) ∧
    (t.init ≠ s.init → i = .beginOp) ∧
    (t.rowRes ≠ s.rowRes → ∃ y, i = .rowBytes y) ∧
    (t.opx ≠ s.opx → (∃ x y v, i = .setPixel x y v) ∨ ∃ x y, i = .getPixel x y) ∧
    (t.opy ≠ s.opy → (∃ x y v, i = .setPixel x y v) ∨ (∃ x y, i = .getPixel x y) ∨ ∃ y, i = .rowBytes y) ∧
    (t.opv ≠ s.opv → (∃ x y v, i = .setPixel x y v) ∨ (∃ v, i = .fill v) ∨ i = .clear) ∧
    (t.fb ≠ s.fb → (∃ x y v, i = .setPixel x y v) ∨ (∃ v, i = .fill v) ∨ i = .clear ∨ i = .txClear ∨ i = .beginOp) ∧
    (t.vcom ≠ s.vcom ∨ t.ntx ≠ s.ntx ∨ t.cs ≠ s.cs ∨ t.wire ≠ s.wire → i = .beginOp ∨ ∃ k, i = txOp k) ∧
    t.busy = false

/-- No host operation reads the value a latch holds from before: two states that differ only there have outcomes that differ only there,
and the results they return agree (10_state.md R22). -/
def Obligations.NoOperationReadsOldLatches : Prop :=
  ∀ (i : Instr) (s t : State), isHostOp i = true → SameButLatches s t →
    ResultRel SameButLatches (exec i s) (exec i t) ∧
    ∀ u w, exec i s = .next u → exec i t = .next w →
      ((∃ x y, i = .getPixel x y) → u.res = w.res) ∧ (i = .beginOp → u.ok = w.ok) ∧
      ((∃ y, i = .rowBytes y) → u.rowRes = w.rowRes)

/-- The serial mode, the clock rate, the margins and the bit-order strategy are invisible: two states that differ only there step alike,
so WIRE, FB, VCOM and every result agree (42_framer_primitives.md R174, R175, R185; 92_eei_decisions.md D4, D6, D7). -/
def Obligations.SerialModeIsInvisible : Prop :=
  ∀ s t : State, SameButSerialMode s t → ResultRel SameButSerialMode (step s) (step t)

/-- No value of FB, VCOM or NTX from before the first successful BEGIN survives it: two uninitialised states that differ only there are
the same state after it (70_reset_and_hazards.md R230). -/
def Obligations.UnwrittenContentsDoNotSurviveBegin : Prop :=
  ∀ s t : State, SameButUnwritten s t → s.init = false → s.busy = false → s.acqAnswer.acqOk = true →
    (∀ c ∈ s.fb, c.1 < fbBytesOf s.cfg) → (∀ c ∈ t.fb, c.1 < fbBytesOf s.cfg) →
    ∃ u, exec .beginOp s = .next u ∧ exec .beginOp t = .next u

/-- A run ends when its last operation has completed (70_reset_and_hazards.md R235): an idle state that meets the invariant is such an
end, whatever words the host has still to issue (the model's choice, log 1), and every host operation issued in one completes in one. -/
def Obligations.OperationsEndIdle : Prop :=
  (∀ s : State, Inv s → s.seq.phase = .idle → RunEnded s) ∧
  ∀ (i : Instr) (s t : State), isHostOp i = true → Inv s → s.seq.phase = .idle → exec i s = .next t → RunEnded t

/-- Every transmission reaches IDLE (42_framer_primitives.md R186; 60_exceptions.md R214 OB3), within the number of steps its kind and the
instance fix, with BUSY 0 and the host's list (the model's own, log 1) untouched. -/
def Obligations.EveryTransmissionEnds : Prop :=
  ∀ s : State, Inv s → s.seq.phase ≠ .idle →
    ∃ n t, n ≤ frameLength s.cfg s.kind + 2 ∧ runSteps n s = .next t ∧ t.seq = Seq.idlePos ∧ t.busy = false ∧ t.host = s.host ∧
      t.vcom = !s.vcom

/-! The panel sink and timing -/

/-- The informative sink of 10_state.md R41, read as a function of the trace (DEDUCED, log 22): a clear blanks every row; a full frame,
once the panel is known, stores every row of FB; a toggle changes no row; each gives the polarity it carried. -/
def Obligations.PanelStoresWhatIsSent : Prop :=
  ∀ s : State, Inv s → s.init = true → s.seq.phase = .idle →
    (∃ t, exec .txClear s = .next t ∧
      panelOf s.cfg t.wire = { rows := some (List.replicate s.cfg.height .blank), polarity := some s.vcom }) ∧
    (∃ t, exec .txFrame s = .next t ∧ (panelOf s.cfg t.wire).polarity = some s.vcom ∧
      ((panelOf s.cfg s.wire).rows ≠ none →
        (panelOf s.cfg t.wire).rows =
          some ((List.range s.cfg.height).map fun y => .payload (s.fb.readRange (y * rowBytesOf s.cfg) (rowBytesOf s.cfg))))) ∧
    (∃ t, exec .txToggle s = .next t ∧
      panelOf s.cfg t.wire = { rows := (panelOf s.cfg s.wire).rows, polarity := some s.vcom })

/-- Idempotence (41_transport_ops.md R152 item 7; 20_memory.md R62): two full frames with FB unchanged between them leave the rows of the
panel as one does (the panel is the model's reading of the informative sink of 10_state.md R41, a function of the trace, DEDUCED, log
22), and differ only in their command byte; VCOM flips each time. -/
def Obligations.RepeatedFrameIsIdempotent : Prop :=
  ∀ s : State, Inv s → s.init = true → s.seq.phase = .idle →
    ∃ t u bs cs, exec .txFrame s = .next t ∧ exec .txFrame t = .next u ∧
      t.wire = s.wire ++ envelope bs ∧ u.wire = t.wire ++ envelope cs ∧ bs.tail = cs.tail ∧
      t.vcom = !s.vcom ∧ u.vcom = s.vcom ∧ (panelOf s.cfg u.wire).rows = (panelOf s.cfg t.wire).rows

/-- The lower bounds on durations of 70_reset_and_hazards.md R246, in whole nanoseconds rounded down (the model's choice, log 4), and the
polarity duty of R238 between two transmissions; no time passes in the model itself (log 14). -/
def Obligations.FrameDurationsAndHeartbeat : Prop :=
  (∀ c : Config, c.fSclk = 2000000 →
    shiftTime c 2 = 8000 ∧ shiftTime c 1498 = 5992000 ∧ shiftTime c 1430 = 5720000) ∧
  (∀ c : Config, c.fSclk = 500000 →
    shiftTime c 2 = 32000 ∧ shiftTime c 1498 = 23968000 ∧ shiftTime c 1430 = 22880000) ∧
  (∀ (c : Config) (n : Nat), minDuration c n = c.tCsSetup + 8 * n * 1000000000 / c.fSclk + c.tCsHold) ∧
  (∀ a b : Nat, a ≤ b → (heartbeatMet [a, b] = true ↔ b - a ≤ 1000000000))
end

