-- ==== Sys2Proof/Laws/Decode.lean ====
section
/-! SUPPORT. The fields of a host word that was put together from its fields (30_encoding.md R81). -/

namespace Sys2Proof

section
variable (op : BitVec 4) (v : Bool) (x y : Coord)

@[simp] theorem opField_hostWord : opField (hostWord op v x y) = op := by
  apply BitVec.eq_of_getLsbD_eq
  intro i hi
  simp only [opField, hostWord, BitVec.getLsbD_extractLsb', BitVec.getLsbD_append]
  interval_cases i <;> simp

@[simp] theorem rsvField_hostWord : rsvField (hostWord op v x y) = 0#3 := by
  apply BitVec.eq_of_getLsbD_eq
  intro i hi
  simp only [rsvField, hostWord, BitVec.getLsbD_extractLsb', BitVec.getLsbD_append]
  interval_cases i <;> simp

@[simp] theorem vField_hostWord : vField (hostWord op v x y) = v := by
  simp only [vField, hostWord, BitVec.getLsbD_append]
  simp

@[simp] theorem xField_hostWord : xField (hostWord op v x y) = x := by
  apply BitVec.eq_of_getLsbD_eq
  intro i hi
  simp only [xField, hostWord, BitVec.getLsbD_extractLsb', BitVec.getLsbD_append, hi]
  simp [show ¬ 16 + i < 16 by omega, hi]

@[simp] theorem yField_hostWord : yField (hostWord op v x y) = y := by
  apply BitVec.eq_of_getLsbD_eq
  intro i hi
  simp only [yField, hostWord, BitVec.getLsbD_extractLsb', BitVec.getLsbD_append, hi]
  simp [hi]

/-- The decoder reads a host word's fields and nothing else. -/
theorem decodeHost_hostWord : decodeHost (hostWord op v x y) = decodeOp op v x y := by
  simp [decodeHost]

/-- A host word as the sum of its shifted fields, as the operations' pages write it (40_framebuffer_ops.md R110 to R114). -/
theorem hostWord_eq_or :
    hostWord op v x y =
      op.setWidth 40 <<< 36 ||| (BitVec.ofBool v).setWidth 40 <<< 32 ||| x.setWidth 40 <<< 16 ||| y.setWidth 40 := by
  apply BitVec.eq_of_getLsbD_eq
  intro i hi
  simp only [hostWord, BitVec.getLsbD_append, BitVec.getLsbD_or, BitVec.getLsbD_shiftLeft, BitVec.getLsbD_setWidth]
  interval_cases i <;> simp

end

end Sys2Proof
end

