-- ==== Sys2Proof/Laws/Mem.lean ====
section
/-! SUPPORT. The laws of the framebuffer's memory: a read after a write, a read after a fill, that both keep the canonical form and the
bound on addresses, and that two memories in canonical form that read alike are equal. -/

namespace Sys2Proof.Machine

@[simp] theorem Mem.read_nil (a : Nat) : Mem.read [] a = 0#8 := rfl

theorem Mem.read_cons (c : Host.Cell) (m : Mem) (a : Nat) : Mem.read (c :: m) a = if c.1 = a then c.2 else Mem.read m a := rfl

theorem Mem.wf_cons {c : Host.Cell} {m : Mem} :
    Mem.wf (c :: m) = true ↔ c.2 ≠ 0#8 ∧ (∀ d ∈ m.head?, c.1 < d.1) ∧ Mem.wf m = true := by
  cases m with
  | nil => simp only [Mem.wf, decide_eq_true_eq]; simp [Mem.unlisted]
  | cons d rest => simp only [Mem.wf, Bool.and_eq_true, decide_eq_true_eq]; simp [Mem.unlisted, and_assoc]

theorem Mem.wf_tail {c : Host.Cell} {m : Mem} (h : Mem.wf (c :: m) = true) : Mem.wf m = true := (Mem.wf_cons.1 h).2.2

/-- In a canonical memory the head's address is below every other one. -/
theorem Mem.wf_head_lt {c : Host.Cell} {m : Mem} (h : Mem.wf (c :: m) = true) : ∀ d ∈ m, c.1 < d.1 := by
  induction m generalizing c with
  | nil => simp
  | cons e rest ih =>
    obtain ⟨-, hlt, hw⟩ := Mem.wf_cons.1 h
    have he : c.1 < e.1 := hlt e (by simp)
    intro d hd
    rcases List.mem_cons.1 hd with rfl | hd
    · exact he
    · exact he.trans (ih hw d hd)

/-- An address below every listed one reads as unlisted. -/
theorem Mem.read_of_lt_all {m : Mem} {a : Nat} (h : ∀ d ∈ m, a < d.1) : m.read a = 0#8 := by
  induction m with
  | nil => rfl
  | cons c rest ih =>
    have hc := h c (by simp)
    rw [Mem.read_cons, if_neg (by omega)]
    exact ih fun d hd => h d (by simp [hd])

/-- An address that no cell lists reads as unlisted. -/
theorem Mem.read_of_not_listed {m : Mem} {a : Nat} (h : ∀ d ∈ m, d.1 ≠ a) : m.read a = 0#8 := by
  induction m with
  | nil => rfl
  | cons c rest ih =>
    rw [Mem.read_cons, if_neg (h c (by simp))]
    exact ih fun d hd => h d (by simp [hd])

/-- A read after a write: the value written at its address, what was there everywhere else. -/
theorem Mem.read_write {m : Mem} (hw : m.wf = true) (a : Nat) (v : Byte) (b : Nat) :
    (m.write a v).read b = if b = a then v else m.read b := by
  induction m with
  | nil =>
    unfold Mem.write
    by_cases hv : v = Mem.unlisted
    · rw [if_pos hv, hv, Mem.read_nil]
      split <;> rfl
    · rw [if_neg hv, Mem.read_cons]
      by_cases h : b = a
      · simp [h]
      · rw [if_neg (by simpa using fun h' => h h'.symm), if_neg h]
  | cons c rest ih =>
    have ih := ih (Mem.wf_tail hw)
    have hlt := Mem.wf_head_lt hw
    unfold Mem.write
    by_cases h1 : c.1 < a
    · rw [if_pos h1, Mem.read_cons, ih, Mem.read_cons]
      by_cases h2 : c.1 = b
      · rw [if_pos h2, if_neg (by omega), if_pos h2]
      · simp [h2]
    · rw [if_neg h1]
      by_cases h2 : c.1 = a
      · rw [if_pos h2]
        by_cases hv : v = Mem.unlisted
        · rw [if_pos hv, Mem.read_cons]
          by_cases hb : b = a
          · subst hb
            rw [if_pos rfl, hv]
            exact Mem.read_of_lt_all fun d hd => by have := hlt d hd; omega
          · rw [if_neg hb, if_neg (by omega)]
        · rw [if_neg hv, Mem.read_cons, Mem.read_cons]
          by_cases hb : b = a
          · simp [hb]
          · rw [if_neg hb, if_neg (by simp only; omega), if_neg (by omega)]
      · rw [if_neg h2]
        by_cases hv : v = Mem.unlisted
        · rw [if_pos hv]
          by_cases hb : b = a
          · subst hb
            rw [if_pos rfl, hv]
            refine Mem.read_of_lt_all fun d hd => ?_
            rcases List.mem_cons.1 hd with rfl | hd
            · omega
            · have := hlt d hd; omega
          · rw [if_neg hb]
        · rw [if_neg hv, Mem.read_cons]
          by_cases hb : b = a
          · simp [hb]
          · rw [if_neg (by simpa using fun h => hb h.symm), if_neg hb]

/-- A write lists no address but its own beside those listed before. -/
theorem Mem.write_mem {m : Mem} {a : Nat} {v : Byte} {d : Host.Cell} (h : d ∈ m.write a v) : d.1 = a ∨ d ∈ m := by
  induction m with
  | nil =>
    unfold Mem.write at h
    split at h <;> simp_all
  | cons c rest ih =>
    unfold Mem.write at h
    split at h
    · rcases List.mem_cons.1 h with rfl | h
      · simp
      · rcases ih h with h | h <;> simp [h]
    · split at h
      · split at h
        · simp [h]
        · rcases List.mem_cons.1 h with rfl | h <;> simp_all
      · split at h
        · exact .inr h
        · rcases List.mem_cons.1 h with rfl | h
          · simp
          · exact .inr h

theorem Mem.wf_write {m : Mem} (hw : m.wf = true) (a : Nat) (v : Byte) : (m.write a v).wf = true := by
  induction m with
  | nil =>
    unfold Mem.write
    split
    · rfl
    · simp_all [Mem.wf]
  | cons c rest ih =>
    have ih := ih (Mem.wf_tail hw)
    obtain ⟨hne, -, hr⟩ := Mem.wf_cons.1 hw
    have hlt := Mem.wf_head_lt hw
    unfold Mem.write
    split
    · rename_i h1
      refine Mem.wf_cons.2 ⟨hne, fun d hd => ?_, ih⟩
      rcases Mem.write_mem (List.mem_of_mem_head? hd) with h | h
      · omega
      · exact hlt d h
    · split
      · split
        · exact hr
        · rename_i h2 hv
          exact Mem.wf_cons.2 ⟨hv, fun d hd => by have := hlt d (List.mem_of_mem_head? hd); simp only; omega, hr⟩
      · split
        · exact hw
        · rename_i h1 h2 hv
          refine Mem.wf_cons.2 ⟨hv, fun d hd => ?_, hw⟩
          simp only [List.head?_cons, Option.mem_def, Option.some.injEq] at hd
          subst hd
          simp only
          omega

/-- A write keeps a bound on the addresses. -/
theorem Mem.bound_write {m : Mem} {n a : Nat} {v : Byte} (hm : ∀ c ∈ m, c.1 < n) (ha : a < n) : ∀ c ∈ m.write a v, c.1 < n := by
  intro c hc
  rcases Mem.write_mem hc with h | h
  · omega
  · exact hm c h

theorem Mem.read_append {m₁ m₂ : Mem} {a : Nat} :
    Mem.read (m₁ ++ m₂) a = if ∃ c ∈ m₁, c.1 = a then Mem.read m₁ a else Mem.read m₂ a := by
  induction m₁ with
  | nil => simp
  | cons c rest ih =>
    rw [List.cons_append, Mem.read_cons, ih, Mem.read_cons]
    by_cases h : c.1 = a
    · simp [h]
    · simp [h]

theorem Mem.read_range_map (n : Nat) (v : Byte) {a : Nat} (h : a < n) :
    Mem.read ((List.range n).map fun i => (i, v)) a = v := by
  induction n with
  | zero => omega
  | succ n ih =>
    rw [List.range_succ, List.map_append, Mem.read_append]
    by_cases h' : a < n
    · rw [if_pos ⟨(a, v), by simp [h'], rfl⟩, ih h']
    · rw [if_neg (by simp; omega)]
      have : n = a := by omega
      simp [Mem.read_cons, this]

theorem Mem.read_filter_ge (m : Mem) (n a : Nat) :
    Mem.read (m.filter fun c => decide (n ≤ c.1)) a = if n ≤ a then m.read a else 0#8 := by
  induction m with
  | nil => simp
  | cons c rest ih =>
    rw [List.filter_cons]
    by_cases h : n ≤ c.1
    · rw [if_pos (by simpa using h), Mem.read_cons, ih, Mem.read_cons]
      by_cases h2 : c.1 = a
      · rw [if_pos h2, if_pos (by omega), if_pos h2]
      · simp [h2]
    · rw [if_neg (by simpa using h), ih, Mem.read_cons]
      by_cases h2 : n ≤ a
      · have hne : ¬c.1 = a := by omega
        simp [h2, hne]
      · simp [h2]

/-- A read after a fill: the fill byte below `n`, what was there from `n` on. -/
theorem Mem.read_fill (m : Mem) (n : Nat) (v : Byte) (a : Nat) :
    (m.fill n v).read a = if a < n then v else m.read a := by
  unfold Mem.fill
  by_cases hv : v = Mem.unlisted
  · rw [if_pos hv, List.nil_append, Mem.read_filter_ge]
    by_cases ha : a < n
    · rw [if_neg (by omega), if_pos ha, hv]; rfl
    · rw [if_pos (by omega), if_neg ha]
  · rw [if_neg hv, Mem.read_append, Mem.read_filter_ge]
    by_cases ha : a < n
    · rw [if_pos ⟨(a, v), by simp [ha], rfl⟩, if_pos ha, Mem.read_range_map n v ha]
    · rw [if_neg (by simp; omega), if_pos (by omega), if_neg ha]

theorem Mem.fill_bound {m : Mem} {n : Nat} {v : Byte} (hm : ∀ c ∈ m, c.1 < n) : ∀ c ∈ m.fill n v, c.1 < n := by
  intro c hc
  unfold Mem.fill at hc
  rcases List.mem_append.1 hc with h | h
  · split at h
    · simp at h
    · obtain ⟨i, hi, rfl⟩ := List.mem_map.1 h
      simpa using hi
  · exact hm c (List.mem_filter.1 h).1

/-- The canonical form as a strict order of the addresses and no unlisted value. -/
theorem Mem.wf_iff_pairwise {m : Mem} :
    m.wf = true ↔ (∀ c ∈ m, c.2 ≠ 0#8) ∧ m.Pairwise fun c d => c.1 < d.1 := by
  induction m with
  | nil => simp [Mem.wf]
  | cons c rest ih =>
    constructor
    · intro h
      obtain ⟨hne, -, hr⟩ := Mem.wf_cons.1 h
      obtain ⟨h1, h2⟩ := ih.1 hr
      refine ⟨fun d hd => ?_, List.pairwise_cons.2 ⟨Mem.wf_head_lt h, h2⟩⟩
      rcases List.mem_cons.1 hd with rfl | hd
      · exact hne
      · exact h1 d hd
    · rintro ⟨h1, h2⟩
      obtain ⟨h3, h4⟩ := List.pairwise_cons.1 h2
      exact Mem.wf_cons.2 ⟨h1 c (by simp), fun d hd => h3 d (List.mem_of_mem_head? hd), ih.2 ⟨fun d hd => h1 d (by simp [hd]), h4⟩⟩

theorem Mem.wf_fill {m : Mem} (hw : m.wf = true) (n : Nat) (v : Byte) : (m.fill n v).wf = true := by
  obtain ⟨h1, h2⟩ := Mem.wf_iff_pairwise.1 hw
  refine Mem.wf_iff_pairwise.2 ⟨fun c hc => ?_, ?_⟩
  · unfold Mem.fill at hc
    rcases List.mem_append.1 hc with h | h
    · split at h
      · simp at h
      · rename_i hv
        obtain ⟨i, -, rfl⟩ := List.mem_map.1 h
        exact hv
    · exact h1 c (List.mem_filter.1 h).1
  · unfold Mem.fill
    refine List.pairwise_append.2 ⟨?_, h2.filter _, fun c hc d hd => ?_⟩
    · split
      · exact List.Pairwise.nil
      · exact List.pairwise_map.2 List.pairwise_lt_range
    · split at hc
      · simp at hc
      · obtain ⟨i, hi, rfl⟩ := List.mem_map.1 hc
        have hd := (List.mem_filter.1 hd).2
        simp only [decide_eq_true_eq, List.mem_range] at hi hd ⊢
        omega

/-- A cell of a canonical memory is what its address reads as. -/
theorem Mem.read_of_mem {m : Mem} (hw : m.wf = true) {c : Host.Cell} (hc : c ∈ m) : m.read c.1 = c.2 := by
  induction m with
  | nil => simp at hc
  | cons d rest ih =>
    rcases List.mem_cons.1 hc with rfl | hc
    · simp [Mem.read_cons]
    · have := Mem.wf_head_lt hw c hc
      rw [Mem.read_cons, if_neg (by omega), ih (Mem.wf_tail hw) hc]

/-- Two memories in canonical form that read alike are equal. -/
theorem Mem.ext_of_wf {m₁ m₂ : Mem} (h₁ : m₁.wf = true) (h₂ : m₂.wf = true) (h : ∀ a, m₁.read a = m₂.read a) : m₁ = m₂ := by
  have key : ∀ {m m' : Mem}, m.wf = true → m'.wf = true → (∀ a, m.read a = m'.read a) → ∀ c ∈ m, c ∈ m' := by
    intro m m' hm hm' he c hc
    by_contra hn
    have hne := (Mem.wf_iff_pairwise.1 hm).1 c hc
    have hr : m'.read c.1 = c.2 := by rw [← he, Mem.read_of_mem hm hc]
    by_cases hl : ∃ d ∈ m', d.1 = c.1
    · obtain ⟨d, hd, hdc⟩ := hl
      have := Mem.read_of_mem hm' hd
      rw [hdc, hr] at this
      exact hn (by rwa [show c = d from Prod.ext hdc.symm this])
    · rw [Mem.read_of_not_listed fun d hd he => hl ⟨d, hd, he⟩] at hr
      exact hne hr.symm
  have hs₁ := (Mem.wf_iff_pairwise.1 h₁).2
  have hs₂ := (Mem.wf_iff_pairwise.1 h₂).2
  have nd : ∀ {m : Mem}, (m.Pairwise fun c d : Host.Cell => c.1 < d.1) → m.Nodup :=
    fun hp => hp.imp fun {c d} (hlt : c.1 < d.1) he => by rw [he] at hlt; exact lt_irrefl _ hlt
  have hperm : m₁.Perm m₂ :=
    (List.perm_ext_iff_of_nodup (nd hs₁) (nd hs₂)).2 fun c =>
      ⟨key h₁ h₂ h c, key h₂ h₁ (fun a => (h a).symm) c⟩
  exact hperm.eq_of_pairwise (fun c d _ _ h1 h2 => absurd h1 (by omega)) hs₁ hs₂

@[simp] theorem Mem.length_readRange (m : Mem) (a n : Nat) : (m.readRange a n).length = n := by simp [Mem.readRange]

theorem Mem.getElem?_readRange (m : Mem) {a n i : Nat} (h : i < n) : (m.readRange a n)[i]? = some (m.read (a + i)) := by
  simp [Mem.readRange, h]

@[simp] theorem Mem.getElem_readRange (m : Mem) {a n i : Nat} (h : i < (m.readRange a n).length) :
    (m.readRange a n)[i] = m.read (a + i) := by
  simp [Mem.readRange]

theorem Mem.readRange_succ (m : Mem) (a n : Nat) : m.readRange a (n + 1) = m.readRange a n ++ [m.read (a + n)] := by
  simp [Mem.readRange, List.range_succ]

/-- A row read after a write or a fill changes only with the bytes read. -/
theorem Mem.readRange_congr {m₁ m₂ : Mem} {a n : Nat} (h : ∀ i, i < n → m₁.read (a + i) = m₂.read (a + i)) :
    m₁.readRange a n = m₂.readRange a n := by
  unfold Mem.readRange
  exact List.map_congr_left fun i hi => h i (List.mem_range.1 hi)

end Sys2Proof.Machine
end

