-- ==== Sys2Proof/Laws/State.lean ====
section
/-! SUPPORT. One lemma for each field of State under each named update of the machine, true by unfolding the update once, so that no later
proof unfolds one. -/

namespace Sys2Proof.Machine

section
variable (s : State)

@[simp] theorem State.emit_cfg (e : Event) : (s.emit e).cfg = s.cfg := rfl
@[simp] theorem State.emit_host (e : Event) : (s.emit e).host = s.host := rfl
@[simp] theorem State.emit_env (e : Event) : (s.emit e).env = s.env := rfl
@[simp] theorem State.emit_draws (e : Event) : (s.emit e).draws = s.draws := rfl
@[simp] theorem State.emit_stepwise (e : Event) : (s.emit e).stepwise = s.stepwise := rfl
@[simp] theorem State.emit_inBegin (e : Event) : (s.emit e).inBegin = s.inBegin := rfl
@[simp] theorem State.emit_fb (e : Event) : (s.emit e).fb = s.fb := rfl
@[simp] theorem State.emit_vcom (e : Event) : (s.emit e).vcom = s.vcom := rfl
@[simp] theorem State.emit_init (e : Event) : (s.emit e).init = s.init := rfl
@[simp] theorem State.emit_busy (e : Event) : (s.emit e).busy = s.busy := rfl
@[simp] theorem State.emit_cs (e : Event) : (s.emit e).cs = s.cs := rfl
@[simp] theorem State.emit_sclk (e : Event) : (s.emit e).sclk = s.sclk := rfl
@[simp] theorem State.emit_mosi (e : Event) : (s.emit e).mosi = s.mosi := rfl
@[simp] theorem State.emit_opx (e : Event) : (s.emit e).opx = s.opx := rfl
@[simp] theorem State.emit_opy (e : Event) : (s.emit e).opy = s.opy := rfl
@[simp] theorem State.emit_opv (e : Event) : (s.emit e).opv = s.opv := rfl
@[simp] theorem State.emit_res (e : Event) : (s.emit e).res = s.res := rfl
@[simp] theorem State.emit_rowRes (e : Event) : (s.emit e).rowRes = s.rowRes := rfl
@[simp] theorem State.emit_ok (e : Event) : (s.emit e).ok = s.ok := rfl
@[simp] theorem State.emit_seq (e : Event) : (s.emit e).seq = s.seq := rfl
@[simp] theorem State.emit_shift (e : Event) : (s.emit e).shift = s.shift := rfl
@[simp] theorem State.emit_kind (e : Event) : (s.emit e).kind = s.kind := rfl
@[simp] theorem State.emit_m1l (e : Event) : (s.emit e).m1l = s.m1l := rfl
@[simp] theorem State.emit_ntx (e : Event) : (s.emit e).ntx = s.ntx := rfl
@[simp] theorem State.emit_wire (e : Event) : (s.emit e).wire = s.wire ++ [e] := rfl

@[simp] theorem State.driveCs_cfg (p : Pin) : (s.driveCs p).cfg = s.cfg := rfl
@[simp] theorem State.driveCs_host (p : Pin) : (s.driveCs p).host = s.host := rfl
@[simp] theorem State.driveCs_env (p : Pin) : (s.driveCs p).env = s.env := rfl
@[simp] theorem State.driveCs_draws (p : Pin) : (s.driveCs p).draws = s.draws := rfl
@[simp] theorem State.driveCs_stepwise (p : Pin) : (s.driveCs p).stepwise = s.stepwise := rfl
@[simp] theorem State.driveCs_inBegin (p : Pin) : (s.driveCs p).inBegin = s.inBegin := rfl
@[simp] theorem State.driveCs_fb (p : Pin) : (s.driveCs p).fb = s.fb := rfl
@[simp] theorem State.driveCs_vcom (p : Pin) : (s.driveCs p).vcom = s.vcom := rfl
@[simp] theorem State.driveCs_init (p : Pin) : (s.driveCs p).init = s.init := rfl
@[simp] theorem State.driveCs_busy (p : Pin) : (s.driveCs p).busy = s.busy := rfl
@[simp] theorem State.driveCs_cs (p : Pin) : (s.driveCs p).cs = p := rfl
@[simp] theorem State.driveCs_sclk (p : Pin) : (s.driveCs p).sclk = s.sclk := rfl
@[simp] theorem State.driveCs_mosi (p : Pin) : (s.driveCs p).mosi = s.mosi := rfl
@[simp] theorem State.driveCs_opx (p : Pin) : (s.driveCs p).opx = s.opx := rfl
@[simp] theorem State.driveCs_opy (p : Pin) : (s.driveCs p).opy = s.opy := rfl
@[simp] theorem State.driveCs_opv (p : Pin) : (s.driveCs p).opv = s.opv := rfl
@[simp] theorem State.driveCs_res (p : Pin) : (s.driveCs p).res = s.res := rfl
@[simp] theorem State.driveCs_rowRes (p : Pin) : (s.driveCs p).rowRes = s.rowRes := rfl
@[simp] theorem State.driveCs_ok (p : Pin) : (s.driveCs p).ok = s.ok := rfl
@[simp] theorem State.driveCs_seq (p : Pin) : (s.driveCs p).seq = s.seq := rfl
@[simp] theorem State.driveCs_shift (p : Pin) : (s.driveCs p).shift = s.shift := rfl
@[simp] theorem State.driveCs_kind (p : Pin) : (s.driveCs p).kind = s.kind := rfl
@[simp] theorem State.driveCs_m1l (p : Pin) : (s.driveCs p).m1l = s.m1l := rfl
@[simp] theorem State.driveCs_ntx (p : Pin) : (s.driveCs p).ntx = s.ntx := rfl
@[simp] theorem State.driveCs_wire (p : Pin) : (s.driveCs p).wire = s.wire := rfl

@[simp] theorem State.clockIdle_cfg : (s.clockIdle).cfg = s.cfg := rfl
@[simp] theorem State.clockIdle_host : (s.clockIdle).host = s.host := rfl
@[simp] theorem State.clockIdle_env : (s.clockIdle).env = s.env := rfl
@[simp] theorem State.clockIdle_draws : (s.clockIdle).draws = s.draws := rfl
@[simp] theorem State.clockIdle_stepwise : (s.clockIdle).stepwise = s.stepwise := rfl
@[simp] theorem State.clockIdle_inBegin : (s.clockIdle).inBegin = s.inBegin := rfl
@[simp] theorem State.clockIdle_fb : (s.clockIdle).fb = s.fb := rfl
@[simp] theorem State.clockIdle_vcom : (s.clockIdle).vcom = s.vcom := rfl
@[simp] theorem State.clockIdle_init : (s.clockIdle).init = s.init := rfl
@[simp] theorem State.clockIdle_busy : (s.clockIdle).busy = s.busy := rfl
@[simp] theorem State.clockIdle_cs : (s.clockIdle).cs = s.cs := rfl
@[simp] theorem State.clockIdle_sclk : (s.clockIdle).sclk = levelOf s.cfg.cpol := rfl
@[simp] theorem State.clockIdle_mosi : (s.clockIdle).mosi = s.mosi := rfl
@[simp] theorem State.clockIdle_opx : (s.clockIdle).opx = s.opx := rfl
@[simp] theorem State.clockIdle_opy : (s.clockIdle).opy = s.opy := rfl
@[simp] theorem State.clockIdle_opv : (s.clockIdle).opv = s.opv := rfl
@[simp] theorem State.clockIdle_res : (s.clockIdle).res = s.res := rfl
@[simp] theorem State.clockIdle_rowRes : (s.clockIdle).rowRes = s.rowRes := rfl
@[simp] theorem State.clockIdle_ok : (s.clockIdle).ok = s.ok := rfl
@[simp] theorem State.clockIdle_seq : (s.clockIdle).seq = s.seq := rfl
@[simp] theorem State.clockIdle_shift : (s.clockIdle).shift = s.shift := rfl
@[simp] theorem State.clockIdle_kind : (s.clockIdle).kind = s.kind := rfl
@[simp] theorem State.clockIdle_m1l : (s.clockIdle).m1l = s.m1l := rfl
@[simp] theorem State.clockIdle_ntx : (s.clockIdle).ntx = s.ntx := rfl
@[simp] theorem State.clockIdle_wire : (s.clockIdle).wire = s.wire := rfl

@[simp] theorem State.clockActive_cfg : (s.clockActive).cfg = s.cfg := rfl
@[simp] theorem State.clockActive_host : (s.clockActive).host = s.host := rfl
@[simp] theorem State.clockActive_env : (s.clockActive).env = s.env := rfl
@[simp] theorem State.clockActive_draws : (s.clockActive).draws = s.draws := rfl
@[simp] theorem State.clockActive_stepwise : (s.clockActive).stepwise = s.stepwise := rfl
@[simp] theorem State.clockActive_inBegin : (s.clockActive).inBegin = s.inBegin := rfl
@[simp] theorem State.clockActive_fb : (s.clockActive).fb = s.fb := rfl
@[simp] theorem State.clockActive_vcom : (s.clockActive).vcom = s.vcom := rfl
@[simp] theorem State.clockActive_init : (s.clockActive).init = s.init := rfl
@[simp] theorem State.clockActive_busy : (s.clockActive).busy = s.busy := rfl
@[simp] theorem State.clockActive_cs : (s.clockActive).cs = s.cs := rfl
@[simp] theorem State.clockActive_sclk : (s.clockActive).sclk = levelOf (!s.cfg.cpol) := rfl
@[simp] theorem State.clockActive_mosi : (s.clockActive).mosi = s.mosi := rfl
@[simp] theorem State.clockActive_opx : (s.clockActive).opx = s.opx := rfl
@[simp] theorem State.clockActive_opy : (s.clockActive).opy = s.opy := rfl
@[simp] theorem State.clockActive_opv : (s.clockActive).opv = s.opv := rfl
@[simp] theorem State.clockActive_res : (s.clockActive).res = s.res := rfl
@[simp] theorem State.clockActive_rowRes : (s.clockActive).rowRes = s.rowRes := rfl
@[simp] theorem State.clockActive_ok : (s.clockActive).ok = s.ok := rfl
@[simp] theorem State.clockActive_seq : (s.clockActive).seq = s.seq := rfl
@[simp] theorem State.clockActive_shift : (s.clockActive).shift = s.shift := rfl
@[simp] theorem State.clockActive_kind : (s.clockActive).kind = s.kind := rfl
@[simp] theorem State.clockActive_m1l : (s.clockActive).m1l = s.m1l := rfl
@[simp] theorem State.clockActive_ntx : (s.clockActive).ntx = s.ntx := rfl
@[simp] theorem State.clockActive_wire : (s.clockActive).wire = s.wire := rfl

@[simp] theorem State.present_cfg (c d : Bool) : (s.present c d).cfg = s.cfg := rfl
@[simp] theorem State.present_host (c d : Bool) : (s.present c d).host = s.host := rfl
@[simp] theorem State.present_env (c d : Bool) : (s.present c d).env = s.env := rfl
@[simp] theorem State.present_draws (c d : Bool) : (s.present c d).draws = s.draws := rfl
@[simp] theorem State.present_stepwise (c d : Bool) : (s.present c d).stepwise = s.stepwise := rfl
@[simp] theorem State.present_inBegin (c d : Bool) : (s.present c d).inBegin = s.inBegin := rfl
@[simp] theorem State.present_fb (c d : Bool) : (s.present c d).fb = s.fb := rfl
@[simp] theorem State.present_vcom (c d : Bool) : (s.present c d).vcom = s.vcom := rfl
@[simp] theorem State.present_init (c d : Bool) : (s.present c d).init = s.init := rfl
@[simp] theorem State.present_busy (c d : Bool) : (s.present c d).busy = s.busy := rfl
@[simp] theorem State.present_cs (c d : Bool) : (s.present c d).cs = s.cs := rfl
@[simp] theorem State.present_sclk (c d : Bool) : (s.present c d).sclk = s.sclk := rfl
@[simp] theorem State.present_mosi (c d : Bool) : (s.present c d).mosi = if c then levelOf d else s.mosi := rfl
@[simp] theorem State.present_opx (c d : Bool) : (s.present c d).opx = s.opx := rfl
@[simp] theorem State.present_opy (c d : Bool) : (s.present c d).opy = s.opy := rfl
@[simp] theorem State.present_opv (c d : Bool) : (s.present c d).opv = s.opv := rfl
@[simp] theorem State.present_res (c d : Bool) : (s.present c d).res = s.res := rfl
@[simp] theorem State.present_rowRes (c d : Bool) : (s.present c d).rowRes = s.rowRes := rfl
@[simp] theorem State.present_ok (c d : Bool) : (s.present c d).ok = s.ok := rfl
@[simp] theorem State.present_seq (c d : Bool) : (s.present c d).seq = s.seq := rfl
@[simp] theorem State.present_shift (c d : Bool) : (s.present c d).shift = s.shift := rfl
@[simp] theorem State.present_kind (c d : Bool) : (s.present c d).kind = s.kind := rfl
@[simp] theorem State.present_m1l (c d : Bool) : (s.present c d).m1l = s.m1l := rfl
@[simp] theorem State.present_ntx (c d : Bool) : (s.present c d).ntx = s.ntx := rfl
@[simp] theorem State.present_wire (c d : Bool) : (s.present c d).wire = s.wire := rfl

@[simp] theorem State.releaseMosi_cfg : (s.releaseMosi).cfg = s.cfg := rfl
@[simp] theorem State.releaseMosi_host : (s.releaseMosi).host = s.host := rfl
@[simp] theorem State.releaseMosi_env : (s.releaseMosi).env = s.env := rfl
@[simp] theorem State.releaseMosi_draws : (s.releaseMosi).draws = s.draws + 1 := rfl
@[simp] theorem State.releaseMosi_stepwise : (s.releaseMosi).stepwise = s.stepwise := rfl
@[simp] theorem State.releaseMosi_inBegin : (s.releaseMosi).inBegin = s.inBegin := rfl
@[simp] theorem State.releaseMosi_fb : (s.releaseMosi).fb = s.fb := rfl
@[simp] theorem State.releaseMosi_vcom : (s.releaseMosi).vcom = s.vcom := rfl
@[simp] theorem State.releaseMosi_init : (s.releaseMosi).init = s.init := rfl
@[simp] theorem State.releaseMosi_busy : (s.releaseMosi).busy = s.busy := rfl
@[simp] theorem State.releaseMosi_cs : (s.releaseMosi).cs = s.cs := rfl
@[simp] theorem State.releaseMosi_sclk : (s.releaseMosi).sclk = s.sclk := rfl
@[simp] theorem State.releaseMosi_mosi : (s.releaseMosi).mosi = levelOf (Config.freeMosi s.draws) := rfl
@[simp] theorem State.releaseMosi_opx : (s.releaseMosi).opx = s.opx := rfl
@[simp] theorem State.releaseMosi_opy : (s.releaseMosi).opy = s.opy := rfl
@[simp] theorem State.releaseMosi_opv : (s.releaseMosi).opv = s.opv := rfl
@[simp] theorem State.releaseMosi_res : (s.releaseMosi).res = s.res := rfl
@[simp] theorem State.releaseMosi_rowRes : (s.releaseMosi).rowRes = s.rowRes := rfl
@[simp] theorem State.releaseMosi_ok : (s.releaseMosi).ok = s.ok := rfl
@[simp] theorem State.releaseMosi_seq : (s.releaseMosi).seq = s.seq := rfl
@[simp] theorem State.releaseMosi_shift : (s.releaseMosi).shift = s.shift := rfl
@[simp] theorem State.releaseMosi_kind : (s.releaseMosi).kind = s.kind := rfl
@[simp] theorem State.releaseMosi_m1l : (s.releaseMosi).m1l = s.m1l := rfl
@[simp] theorem State.releaseMosi_ntx : (s.releaseMosi).ntx = s.ntx := rfl
@[simp] theorem State.releaseMosi_wire : (s.releaseMosi).wire = s.wire := rfl

@[simp] theorem State.moveSeq_cfg (p : Seq) : (s.moveSeq p).cfg = s.cfg := rfl
@[simp] theorem State.moveSeq_host (p : Seq) : (s.moveSeq p).host = s.host := rfl
@[simp] theorem State.moveSeq_env (p : Seq) : (s.moveSeq p).env = s.env := rfl
@[simp] theorem State.moveSeq_draws (p : Seq) : (s.moveSeq p).draws = s.draws := rfl
@[simp] theorem State.moveSeq_stepwise (p : Seq) : (s.moveSeq p).stepwise = s.stepwise := rfl
@[simp] theorem State.moveSeq_inBegin (p : Seq) : (s.moveSeq p).inBegin = s.inBegin := rfl
@[simp] theorem State.moveSeq_fb (p : Seq) : (s.moveSeq p).fb = s.fb := rfl
@[simp] theorem State.moveSeq_vcom (p : Seq) : (s.moveSeq p).vcom = s.vcom := rfl
@[simp] theorem State.moveSeq_init (p : Seq) : (s.moveSeq p).init = s.init := rfl
@[simp] theorem State.moveSeq_busy (p : Seq) : (s.moveSeq p).busy = s.busy := rfl
@[simp] theorem State.moveSeq_cs (p : Seq) : (s.moveSeq p).cs = s.cs := rfl
@[simp] theorem State.moveSeq_sclk (p : Seq) : (s.moveSeq p).sclk = s.sclk := rfl
@[simp] theorem State.moveSeq_mosi (p : Seq) : (s.moveSeq p).mosi = s.mosi := rfl
@[simp] theorem State.moveSeq_opx (p : Seq) : (s.moveSeq p).opx = s.opx := rfl
@[simp] theorem State.moveSeq_opy (p : Seq) : (s.moveSeq p).opy = s.opy := rfl
@[simp] theorem State.moveSeq_opv (p : Seq) : (s.moveSeq p).opv = s.opv := rfl
@[simp] theorem State.moveSeq_res (p : Seq) : (s.moveSeq p).res = s.res := rfl
@[simp] theorem State.moveSeq_rowRes (p : Seq) : (s.moveSeq p).rowRes = s.rowRes := rfl
@[simp] theorem State.moveSeq_ok (p : Seq) : (s.moveSeq p).ok = s.ok := rfl
@[simp] theorem State.moveSeq_seq (p : Seq) : (s.moveSeq p).seq = p := rfl
@[simp] theorem State.moveSeq_shift (p : Seq) : (s.moveSeq p).shift = s.shift := rfl
@[simp] theorem State.moveSeq_kind (p : Seq) : (s.moveSeq p).kind = s.kind := rfl
@[simp] theorem State.moveSeq_m1l (p : Seq) : (s.moveSeq p).m1l = s.m1l := rfl
@[simp] theorem State.moveSeq_ntx (p : Seq) : (s.moveSeq p).ntx = s.ntx := rfl
@[simp] theorem State.moveSeq_wire (p : Seq) : (s.moveSeq p).wire = s.wire := rfl

@[simp] theorem State.zeroFb_cfg : (s.zeroFb).cfg = s.cfg := rfl
@[simp] theorem State.zeroFb_host : (s.zeroFb).host = s.host := rfl
@[simp] theorem State.zeroFb_env : (s.zeroFb).env = s.env := rfl
@[simp] theorem State.zeroFb_draws : (s.zeroFb).draws = s.draws := rfl
@[simp] theorem State.zeroFb_stepwise : (s.zeroFb).stepwise = s.stepwise := rfl
@[simp] theorem State.zeroFb_inBegin : (s.zeroFb).inBegin = s.inBegin := rfl
@[simp] theorem State.zeroFb_fb : (s.zeroFb).fb = s.fb.fill (fbBytesOf s.cfg) 0x00#8 := rfl
@[simp] theorem State.zeroFb_vcom : (s.zeroFb).vcom = s.vcom := rfl
@[simp] theorem State.zeroFb_init : (s.zeroFb).init = s.init := rfl
@[simp] theorem State.zeroFb_busy : (s.zeroFb).busy = s.busy := rfl
@[simp] theorem State.zeroFb_cs : (s.zeroFb).cs = s.cs := rfl
@[simp] theorem State.zeroFb_sclk : (s.zeroFb).sclk = s.sclk := rfl
@[simp] theorem State.zeroFb_mosi : (s.zeroFb).mosi = s.mosi := rfl
@[simp] theorem State.zeroFb_opx : (s.zeroFb).opx = s.opx := rfl
@[simp] theorem State.zeroFb_opy : (s.zeroFb).opy = s.opy := rfl
@[simp] theorem State.zeroFb_opv : (s.zeroFb).opv = s.opv := rfl
@[simp] theorem State.zeroFb_res : (s.zeroFb).res = s.res := rfl
@[simp] theorem State.zeroFb_rowRes : (s.zeroFb).rowRes = s.rowRes := rfl
@[simp] theorem State.zeroFb_ok : (s.zeroFb).ok = s.ok := rfl
@[simp] theorem State.zeroFb_seq : (s.zeroFb).seq = s.seq := rfl
@[simp] theorem State.zeroFb_shift : (s.zeroFb).shift = s.shift := rfl
@[simp] theorem State.zeroFb_kind : (s.zeroFb).kind = s.kind := rfl
@[simp] theorem State.zeroFb_m1l : (s.zeroFb).m1l = s.m1l := rfl
@[simp] theorem State.zeroFb_ntx : (s.zeroFb).ntx = s.ntx := rfl
@[simp] theorem State.zeroFb_wire : (s.zeroFb).wire = s.wire := rfl

@[simp] theorem State.takeAnswer_cfg : (s.takeAnswer).cfg = s.cfg := rfl
@[simp] theorem State.takeAnswer_host : (s.takeAnswer).host = s.host := rfl
@[simp] theorem State.takeAnswer_env : (s.takeAnswer).env = s.env.tail := rfl
@[simp] theorem State.takeAnswer_draws : (s.takeAnswer).draws = s.draws + 1 := rfl
@[simp] theorem State.takeAnswer_stepwise : (s.takeAnswer).stepwise = s.stepwise := rfl
@[simp] theorem State.takeAnswer_inBegin : (s.takeAnswer).inBegin = s.inBegin := rfl
@[simp] theorem State.takeAnswer_fb : (s.takeAnswer).fb = s.fb := rfl
@[simp] theorem State.takeAnswer_vcom : (s.takeAnswer).vcom = s.vcom := rfl
@[simp] theorem State.takeAnswer_init : (s.takeAnswer).init = s.init := rfl
@[simp] theorem State.takeAnswer_busy : (s.takeAnswer).busy = s.busy := rfl
@[simp] theorem State.takeAnswer_cs : (s.takeAnswer).cs = s.cs := rfl
@[simp] theorem State.takeAnswer_sclk : (s.takeAnswer).sclk = s.sclk := rfl
@[simp] theorem State.takeAnswer_mosi : (s.takeAnswer).mosi = s.mosi := rfl
@[simp] theorem State.takeAnswer_opx : (s.takeAnswer).opx = s.opx := rfl
@[simp] theorem State.takeAnswer_opy : (s.takeAnswer).opy = s.opy := rfl
@[simp] theorem State.takeAnswer_opv : (s.takeAnswer).opv = s.opv := rfl
@[simp] theorem State.takeAnswer_res : (s.takeAnswer).res = s.res := rfl
@[simp] theorem State.takeAnswer_rowRes : (s.takeAnswer).rowRes = s.rowRes := rfl
@[simp] theorem State.takeAnswer_ok : (s.takeAnswer).ok = s.ok := rfl
@[simp] theorem State.takeAnswer_seq : (s.takeAnswer).seq = s.seq := rfl
@[simp] theorem State.takeAnswer_shift : (s.takeAnswer).shift = s.shift := rfl
@[simp] theorem State.takeAnswer_kind : (s.takeAnswer).kind = s.kind := rfl
@[simp] theorem State.takeAnswer_m1l : (s.takeAnswer).m1l = s.m1l := rfl
@[simp] theorem State.takeAnswer_ntx : (s.takeAnswer).ntx = s.ntx := rfl
@[simp] theorem State.takeAnswer_wire : (s.takeAnswer).wire = s.wire := rfl

@[simp] theorem State.accept_cfg : (s.accept).cfg = s.cfg := rfl
@[simp] theorem State.accept_host : (s.accept).host = s.host := rfl
@[simp] theorem State.accept_env : (s.accept).env = s.env := rfl
@[simp] theorem State.accept_draws : (s.accept).draws = s.draws := rfl
@[simp] theorem State.accept_stepwise : (s.accept).stepwise = s.stepwise := rfl
@[simp] theorem State.accept_inBegin : (s.accept).inBegin = s.inBegin := rfl
@[simp] theorem State.accept_fb : (s.accept).fb = s.fb := rfl
@[simp] theorem State.accept_vcom : (s.accept).vcom = s.vcom := rfl
@[simp] theorem State.accept_init : (s.accept).init = s.init := rfl
@[simp] theorem State.accept_busy : (s.accept).busy = true := rfl
@[simp] theorem State.accept_cs : (s.accept).cs = s.cs := rfl
@[simp] theorem State.accept_sclk : (s.accept).sclk = s.sclk := rfl
@[simp] theorem State.accept_mosi : (s.accept).mosi = s.mosi := rfl
@[simp] theorem State.accept_opx : (s.accept).opx = s.opx := rfl
@[simp] theorem State.accept_opy : (s.accept).opy = s.opy := rfl
@[simp] theorem State.accept_opv : (s.accept).opv = s.opv := rfl
@[simp] theorem State.accept_res : (s.accept).res = s.res := rfl
@[simp] theorem State.accept_rowRes : (s.accept).rowRes = s.rowRes := rfl
@[simp] theorem State.accept_ok : (s.accept).ok = s.ok := rfl
@[simp] theorem State.accept_seq : (s.accept).seq = s.seq := rfl
@[simp] theorem State.accept_shift : (s.accept).shift = s.shift := rfl
@[simp] theorem State.accept_kind : (s.accept).kind = s.kind := rfl
@[simp] theorem State.accept_m1l : (s.accept).m1l = s.m1l := rfl
@[simp] theorem State.accept_ntx : (s.accept).ntx = s.ntx := rfl
@[simp] theorem State.accept_wire : (s.accept).wire = s.wire := rfl

@[simp] theorem State.complete_cfg : (s.complete).cfg = s.cfg := rfl
@[simp] theorem State.complete_host : (s.complete).host = s.host := rfl
@[simp] theorem State.complete_env : (s.complete).env = s.env := rfl
@[simp] theorem State.complete_draws : (s.complete).draws = s.draws := rfl
@[simp] theorem State.complete_stepwise : (s.complete).stepwise = s.stepwise := rfl
@[simp] theorem State.complete_inBegin : (s.complete).inBegin = s.inBegin := rfl
@[simp] theorem State.complete_fb : (s.complete).fb = s.fb := rfl
@[simp] theorem State.complete_vcom : (s.complete).vcom = s.vcom := rfl
@[simp] theorem State.complete_init : (s.complete).init = s.init := rfl
@[simp] theorem State.complete_busy : (s.complete).busy = false := rfl
@[simp] theorem State.complete_cs : (s.complete).cs = s.cs := rfl
@[simp] theorem State.complete_sclk : (s.complete).sclk = s.sclk := rfl
@[simp] theorem State.complete_mosi : (s.complete).mosi = s.mosi := rfl
@[simp] theorem State.complete_opx : (s.complete).opx = s.opx := rfl
@[simp] theorem State.complete_opy : (s.complete).opy = s.opy := rfl
@[simp] theorem State.complete_opv : (s.complete).opv = s.opv := rfl
@[simp] theorem State.complete_res : (s.complete).res = s.res := rfl
@[simp] theorem State.complete_rowRes : (s.complete).rowRes = s.rowRes := rfl
@[simp] theorem State.complete_ok : (s.complete).ok = s.ok := rfl
@[simp] theorem State.complete_seq : (s.complete).seq = s.seq := rfl
@[simp] theorem State.complete_shift : (s.complete).shift = s.shift := rfl
@[simp] theorem State.complete_kind : (s.complete).kind = s.kind := rfl
@[simp] theorem State.complete_m1l : (s.complete).m1l = s.m1l := rfl
@[simp] theorem State.complete_ntx : (s.complete).ntx = s.ntx := rfl
@[simp] theorem State.complete_wire : (s.complete).wire = s.wire := rfl

@[simp] theorem State.configureCs_cfg : (s.configureCs).cfg = s.cfg := rfl
@[simp] theorem State.configureCs_host : (s.configureCs).host = s.host := rfl
@[simp] theorem State.configureCs_env : (s.configureCs).env = s.env := rfl
@[simp] theorem State.configureCs_draws : (s.configureCs).draws = s.draws := rfl
@[simp] theorem State.configureCs_stepwise : (s.configureCs).stepwise = s.stepwise := rfl
@[simp] theorem State.configureCs_inBegin : (s.configureCs).inBegin = s.inBegin := rfl
@[simp] theorem State.configureCs_fb : (s.configureCs).fb = s.fb := rfl
@[simp] theorem State.configureCs_vcom : (s.configureCs).vcom = s.vcom := rfl
@[simp] theorem State.configureCs_init : (s.configureCs).init = s.init := rfl
@[simp] theorem State.configureCs_busy : (s.configureCs).busy = s.busy := rfl
@[simp] theorem State.configureCs_cs : (s.configureCs).cs = .low := rfl
@[simp] theorem State.configureCs_sclk : (s.configureCs).sclk = s.sclk := rfl
@[simp] theorem State.configureCs_mosi : (s.configureCs).mosi = s.mosi := rfl
@[simp] theorem State.configureCs_opx : (s.configureCs).opx = s.opx := rfl
@[simp] theorem State.configureCs_opy : (s.configureCs).opy = s.opy := rfl
@[simp] theorem State.configureCs_opv : (s.configureCs).opv = s.opv := rfl
@[simp] theorem State.configureCs_res : (s.configureCs).res = s.res := rfl
@[simp] theorem State.configureCs_rowRes : (s.configureCs).rowRes = s.rowRes := rfl
@[simp] theorem State.configureCs_ok : (s.configureCs).ok = s.ok := rfl
@[simp] theorem State.configureCs_seq : (s.configureCs).seq = s.seq := rfl
@[simp] theorem State.configureCs_shift : (s.configureCs).shift = s.shift := rfl
@[simp] theorem State.configureCs_kind : (s.configureCs).kind = s.kind := rfl
@[simp] theorem State.configureCs_m1l : (s.configureCs).m1l = s.m1l := rfl
@[simp] theorem State.configureCs_ntx : (s.configureCs).ntx = s.ntx := rfl
@[simp] theorem State.configureCs_wire : (s.configureCs).wire = s.wire ++ [.csConfig] := rfl

@[simp] theorem State.initDone_cfg : (s.initDone).cfg = s.cfg := rfl
@[simp] theorem State.initDone_host : (s.initDone).host = s.host := rfl
@[simp] theorem State.initDone_env : (s.initDone).env = s.env := rfl
@[simp] theorem State.initDone_draws : (s.initDone).draws = s.draws := rfl
@[simp] theorem State.initDone_stepwise : (s.initDone).stepwise = s.stepwise := rfl
@[simp] theorem State.initDone_inBegin : (s.initDone).inBegin = s.inBegin := rfl
@[simp] theorem State.initDone_fb : (s.initDone).fb = s.fb := rfl
@[simp] theorem State.initDone_vcom : (s.initDone).vcom = s.vcom := rfl
@[simp] theorem State.initDone_init : (s.initDone).init = s.init := rfl
@[simp] theorem State.initDone_busy : (s.initDone).busy = s.busy := rfl
@[simp] theorem State.initDone_cs : (s.initDone).cs = s.cs := rfl
@[simp] theorem State.initDone_sclk : (s.initDone).sclk = s.sclk := rfl
@[simp] theorem State.initDone_mosi : (s.initDone).mosi = s.mosi := rfl
@[simp] theorem State.initDone_opx : (s.initDone).opx = s.opx := rfl
@[simp] theorem State.initDone_opy : (s.initDone).opy = s.opy := rfl
@[simp] theorem State.initDone_opv : (s.initDone).opv = s.opv := rfl
@[simp] theorem State.initDone_res : (s.initDone).res = s.res := rfl
@[simp] theorem State.initDone_rowRes : (s.initDone).rowRes = s.rowRes := rfl
@[simp] theorem State.initDone_ok : (s.initDone).ok = true := rfl
@[simp] theorem State.initDone_seq : (s.initDone).seq = s.seq := rfl
@[simp] theorem State.initDone_shift : (s.initDone).shift = s.shift := rfl
@[simp] theorem State.initDone_kind : (s.initDone).kind = s.kind := rfl
@[simp] theorem State.initDone_m1l : (s.initDone).m1l = s.m1l := rfl
@[simp] theorem State.initDone_ntx : (s.initDone).ntx = s.ntx := rfl
@[simp] theorem State.initDone_wire : (s.initDone).wire = s.wire := rfl

@[simp] theorem State.setRes_cfg (v : Bool) : (s.setRes v).cfg = s.cfg := rfl
@[simp] theorem State.setRes_host (v : Bool) : (s.setRes v).host = s.host := rfl
@[simp] theorem State.setRes_env (v : Bool) : (s.setRes v).env = s.env := rfl
@[simp] theorem State.setRes_draws (v : Bool) : (s.setRes v).draws = s.draws := rfl
@[simp] theorem State.setRes_stepwise (v : Bool) : (s.setRes v).stepwise = s.stepwise := rfl
@[simp] theorem State.setRes_inBegin (v : Bool) : (s.setRes v).inBegin = s.inBegin := rfl
@[simp] theorem State.setRes_fb (v : Bool) : (s.setRes v).fb = s.fb := rfl
@[simp] theorem State.setRes_vcom (v : Bool) : (s.setRes v).vcom = s.vcom := rfl
@[simp] theorem State.setRes_init (v : Bool) : (s.setRes v).init = s.init := rfl
@[simp] theorem State.setRes_busy (v : Bool) : (s.setRes v).busy = s.busy := rfl
@[simp] theorem State.setRes_cs (v : Bool) : (s.setRes v).cs = s.cs := rfl
@[simp] theorem State.setRes_sclk (v : Bool) : (s.setRes v).sclk = s.sclk := rfl
@[simp] theorem State.setRes_mosi (v : Bool) : (s.setRes v).mosi = s.mosi := rfl
@[simp] theorem State.setRes_opx (v : Bool) : (s.setRes v).opx = s.opx := rfl
@[simp] theorem State.setRes_opy (v : Bool) : (s.setRes v).opy = s.opy := rfl
@[simp] theorem State.setRes_opv (v : Bool) : (s.setRes v).opv = s.opv := rfl
@[simp] theorem State.setRes_res (v : Bool) : (s.setRes v).res = v := rfl
@[simp] theorem State.setRes_rowRes (v : Bool) : (s.setRes v).rowRes = s.rowRes := rfl
@[simp] theorem State.setRes_ok (v : Bool) : (s.setRes v).ok = s.ok := rfl
@[simp] theorem State.setRes_seq (v : Bool) : (s.setRes v).seq = s.seq := rfl
@[simp] theorem State.setRes_shift (v : Bool) : (s.setRes v).shift = s.shift := rfl
@[simp] theorem State.setRes_kind (v : Bool) : (s.setRes v).kind = s.kind := rfl
@[simp] theorem State.setRes_m1l (v : Bool) : (s.setRes v).m1l = s.m1l := rfl
@[simp] theorem State.setRes_ntx (v : Bool) : (s.setRes v).ntx = s.ntx := rfl
@[simp] theorem State.setRes_wire (v : Bool) : (s.setRes v).wire = s.wire := rfl

@[simp] theorem State.flipVcom_cfg : (s.flipVcom).cfg = s.cfg := rfl
@[simp] theorem State.flipVcom_host : (s.flipVcom).host = s.host := rfl
@[simp] theorem State.flipVcom_env : (s.flipVcom).env = s.env := rfl
@[simp] theorem State.flipVcom_draws : (s.flipVcom).draws = s.draws := rfl
@[simp] theorem State.flipVcom_stepwise : (s.flipVcom).stepwise = s.stepwise := rfl
@[simp] theorem State.flipVcom_inBegin : (s.flipVcom).inBegin = s.inBegin := rfl
@[simp] theorem State.flipVcom_fb : (s.flipVcom).fb = s.fb := rfl
@[simp] theorem State.flipVcom_vcom : (s.flipVcom).vcom = !s.vcom := rfl
@[simp] theorem State.flipVcom_init : (s.flipVcom).init = s.init := rfl
@[simp] theorem State.flipVcom_busy : (s.flipVcom).busy = s.busy := rfl
@[simp] theorem State.flipVcom_cs : (s.flipVcom).cs = s.cs := rfl
@[simp] theorem State.flipVcom_sclk : (s.flipVcom).sclk = s.sclk := rfl
@[simp] theorem State.flipVcom_mosi : (s.flipVcom).mosi = s.mosi := rfl
@[simp] theorem State.flipVcom_opx : (s.flipVcom).opx = s.opx := rfl
@[simp] theorem State.flipVcom_opy : (s.flipVcom).opy = s.opy := rfl
@[simp] theorem State.flipVcom_opv : (s.flipVcom).opv = s.opv := rfl
@[simp] theorem State.flipVcom_res : (s.flipVcom).res = s.res := rfl
@[simp] theorem State.flipVcom_rowRes : (s.flipVcom).rowRes = s.rowRes := rfl
@[simp] theorem State.flipVcom_ok : (s.flipVcom).ok = s.ok := rfl
@[simp] theorem State.flipVcom_seq : (s.flipVcom).seq = s.seq := rfl
@[simp] theorem State.flipVcom_shift : (s.flipVcom).shift = s.shift := rfl
@[simp] theorem State.flipVcom_kind : (s.flipVcom).kind = s.kind := rfl
@[simp] theorem State.flipVcom_m1l : (s.flipVcom).m1l = s.m1l := rfl
@[simp] theorem State.flipVcom_ntx : (s.flipVcom).ntx = s.ntx + 1 := rfl
@[simp] theorem State.flipVcom_wire : (s.flipVcom).wire = s.wire := rfl

@[simp] theorem State.csAssert_cfg : (s.csAssert).cfg = s.cfg := rfl
@[simp] theorem State.csAssert_host : (s.csAssert).host = s.host := rfl
@[simp] theorem State.csAssert_env : (s.csAssert).env = s.env := rfl
@[simp] theorem State.csAssert_draws : (s.csAssert).draws = s.draws := rfl
@[simp] theorem State.csAssert_stepwise : (s.csAssert).stepwise = s.stepwise := rfl
@[simp] theorem State.csAssert_inBegin : (s.csAssert).inBegin = s.inBegin := rfl
@[simp] theorem State.csAssert_fb : (s.csAssert).fb = s.fb := rfl
@[simp] theorem State.csAssert_vcom : (s.csAssert).vcom = s.vcom := rfl
@[simp] theorem State.csAssert_init : (s.csAssert).init = s.init := rfl
@[simp] theorem State.csAssert_busy : (s.csAssert).busy = s.busy := rfl
@[simp] theorem State.csAssert_cs : (s.csAssert).cs = .high := rfl
@[simp] theorem State.csAssert_sclk : (s.csAssert).sclk = s.sclk := rfl
@[simp] theorem State.csAssert_mosi : (s.csAssert).mosi = s.mosi := rfl
@[simp] theorem State.csAssert_opx : (s.csAssert).opx = s.opx := rfl
@[simp] theorem State.csAssert_opy : (s.csAssert).opy = s.opy := rfl
@[simp] theorem State.csAssert_opv : (s.csAssert).opv = s.opv := rfl
@[simp] theorem State.csAssert_res : (s.csAssert).res = s.res := rfl
@[simp] theorem State.csAssert_rowRes : (s.csAssert).rowRes = s.rowRes := rfl
@[simp] theorem State.csAssert_ok : (s.csAssert).ok = s.ok := rfl
@[simp] theorem State.csAssert_seq : (s.csAssert).seq = s.seq := rfl
@[simp] theorem State.csAssert_shift : (s.csAssert).shift = s.shift := rfl
@[simp] theorem State.csAssert_kind : (s.csAssert).kind = s.kind := rfl
@[simp] theorem State.csAssert_m1l : (s.csAssert).m1l = s.m1l := rfl
@[simp] theorem State.csAssert_ntx : (s.csAssert).ntx = s.ntx := rfl
@[simp] theorem State.csAssert_wire : (s.csAssert).wire = s.wire ++ [.csAssert] := rfl

@[simp] theorem State.csDeassert_cfg : (s.csDeassert).cfg = s.cfg := rfl
@[simp] theorem State.csDeassert_host : (s.csDeassert).host = s.host := rfl
@[simp] theorem State.csDeassert_env : (s.csDeassert).env = s.env := rfl
@[simp] theorem State.csDeassert_draws : (s.csDeassert).draws = s.draws := rfl
@[simp] theorem State.csDeassert_stepwise : (s.csDeassert).stepwise = s.stepwise := rfl
@[simp] theorem State.csDeassert_inBegin : (s.csDeassert).inBegin = s.inBegin := rfl
@[simp] theorem State.csDeassert_fb : (s.csDeassert).fb = s.fb := rfl
@[simp] theorem State.csDeassert_vcom : (s.csDeassert).vcom = s.vcom := rfl
@[simp] theorem State.csDeassert_init : (s.csDeassert).init = s.init := rfl
@[simp] theorem State.csDeassert_busy : (s.csDeassert).busy = s.busy := rfl
@[simp] theorem State.csDeassert_cs : (s.csDeassert).cs = .low := rfl
@[simp] theorem State.csDeassert_sclk : (s.csDeassert).sclk = s.sclk := rfl
@[simp] theorem State.csDeassert_mosi : (s.csDeassert).mosi = s.mosi := rfl
@[simp] theorem State.csDeassert_opx : (s.csDeassert).opx = s.opx := rfl
@[simp] theorem State.csDeassert_opy : (s.csDeassert).opy = s.opy := rfl
@[simp] theorem State.csDeassert_opv : (s.csDeassert).opv = s.opv := rfl
@[simp] theorem State.csDeassert_res : (s.csDeassert).res = s.res := rfl
@[simp] theorem State.csDeassert_rowRes : (s.csDeassert).rowRes = s.rowRes := rfl
@[simp] theorem State.csDeassert_ok : (s.csDeassert).ok = s.ok := rfl
@[simp] theorem State.csDeassert_seq : (s.csDeassert).seq = s.seq := rfl
@[simp] theorem State.csDeassert_shift : (s.csDeassert).shift = s.shift := rfl
@[simp] theorem State.csDeassert_kind : (s.csDeassert).kind = s.kind := rfl
@[simp] theorem State.csDeassert_m1l : (s.csDeassert).m1l = s.m1l := rfl
@[simp] theorem State.csDeassert_ntx : (s.csDeassert).ntx = s.ntx := rfl
@[simp] theorem State.csDeassert_wire : (s.csDeassert).wire = s.wire ++ [.csDeassert] := rfl

@[simp] theorem State.loadShift_cfg (b : Byte) : (s.loadShift b).cfg = s.cfg := rfl
@[simp] theorem State.loadShift_host (b : Byte) : (s.loadShift b).host = s.host := rfl
@[simp] theorem State.loadShift_env (b : Byte) : (s.loadShift b).env = s.env := rfl
@[simp] theorem State.loadShift_draws (b : Byte) : (s.loadShift b).draws = s.draws := rfl
@[simp] theorem State.loadShift_stepwise (b : Byte) : (s.loadShift b).stepwise = s.stepwise := rfl
@[simp] theorem State.loadShift_inBegin (b : Byte) : (s.loadShift b).inBegin = s.inBegin := rfl
@[simp] theorem State.loadShift_fb (b : Byte) : (s.loadShift b).fb = s.fb := rfl
@[simp] theorem State.loadShift_vcom (b : Byte) : (s.loadShift b).vcom = s.vcom := rfl
@[simp] theorem State.loadShift_init (b : Byte) : (s.loadShift b).init = s.init := rfl
@[simp] theorem State.loadShift_busy (b : Byte) : (s.loadShift b).busy = s.busy := rfl
@[simp] theorem State.loadShift_cs (b : Byte) : (s.loadShift b).cs = s.cs := rfl
@[simp] theorem State.loadShift_sclk (b : Byte) : (s.loadShift b).sclk = s.sclk := rfl
@[simp] theorem State.loadShift_mosi (b : Byte) : (s.loadShift b).mosi = s.mosi := rfl
@[simp] theorem State.loadShift_opx (b : Byte) : (s.loadShift b).opx = s.opx := rfl
@[simp] theorem State.loadShift_opy (b : Byte) : (s.loadShift b).opy = s.opy := rfl
@[simp] theorem State.loadShift_opv (b : Byte) : (s.loadShift b).opv = s.opv := rfl
@[simp] theorem State.loadShift_res (b : Byte) : (s.loadShift b).res = s.res := rfl
@[simp] theorem State.loadShift_rowRes (b : Byte) : (s.loadShift b).rowRes = s.rowRes := rfl
@[simp] theorem State.loadShift_ok (b : Byte) : (s.loadShift b).ok = s.ok := rfl
@[simp] theorem State.loadShift_seq (b : Byte) : (s.loadShift b).seq = { s.seq with bit := 0 } := rfl
@[simp] theorem State.loadShift_shift (b : Byte) : (s.loadShift b).shift = registerByte s.cfg.bitOrder b := rfl
@[simp] theorem State.loadShift_kind (b : Byte) : (s.loadShift b).kind = s.kind := rfl
@[simp] theorem State.loadShift_m1l (b : Byte) : (s.loadShift b).m1l = s.m1l := rfl
@[simp] theorem State.loadShift_ntx (b : Byte) : (s.loadShift b).ntx = s.ntx := rfl
@[simp] theorem State.loadShift_wire (b : Byte) : (s.loadShift b).wire = s.wire := rfl

@[simp] theorem State.presentBit_cfg (c : Bool) : (s.presentBit c).cfg = s.cfg := rfl
@[simp] theorem State.presentBit_host (c : Bool) : (s.presentBit c).host = s.host := rfl
@[simp] theorem State.presentBit_env (c : Bool) : (s.presentBit c).env = s.env := rfl
@[simp] theorem State.presentBit_draws (c : Bool) : (s.presentBit c).draws = s.draws := rfl
@[simp] theorem State.presentBit_stepwise (c : Bool) : (s.presentBit c).stepwise = s.stepwise := rfl
@[simp] theorem State.presentBit_inBegin (c : Bool) : (s.presentBit c).inBegin = s.inBegin := rfl
@[simp] theorem State.presentBit_fb (c : Bool) : (s.presentBit c).fb = s.fb := rfl
@[simp] theorem State.presentBit_vcom (c : Bool) : (s.presentBit c).vcom = s.vcom := rfl
@[simp] theorem State.presentBit_init (c : Bool) : (s.presentBit c).init = s.init := rfl
@[simp] theorem State.presentBit_busy (c : Bool) : (s.presentBit c).busy = s.busy := rfl
@[simp] theorem State.presentBit_cs (c : Bool) : (s.presentBit c).cs = s.cs := rfl
@[simp] theorem State.presentBit_sclk (c : Bool) : (s.presentBit c).sclk = s.sclk := rfl
@[simp] theorem State.presentBit_mosi (c : Bool) :
    (s.presentBit c).mosi = if c then levelOf (shiftedBit s.cfg.bitOrder s.shift s.seq.bit.val) else s.mosi := rfl
@[simp] theorem State.presentBit_opx (c : Bool) : (s.presentBit c).opx = s.opx := rfl
@[simp] theorem State.presentBit_opy (c : Bool) : (s.presentBit c).opy = s.opy := rfl
@[simp] theorem State.presentBit_opv (c : Bool) : (s.presentBit c).opv = s.opv := rfl
@[simp] theorem State.presentBit_res (c : Bool) : (s.presentBit c).res = s.res := rfl
@[simp] theorem State.presentBit_rowRes (c : Bool) : (s.presentBit c).rowRes = s.rowRes := rfl
@[simp] theorem State.presentBit_ok (c : Bool) : (s.presentBit c).ok = s.ok := rfl
@[simp] theorem State.presentBit_seq (c : Bool) : (s.presentBit c).seq = s.seq := rfl
@[simp] theorem State.presentBit_shift (c : Bool) : (s.presentBit c).shift = s.shift := rfl
@[simp] theorem State.presentBit_kind (c : Bool) : (s.presentBit c).kind = s.kind := rfl
@[simp] theorem State.presentBit_m1l (c : Bool) : (s.presentBit c).m1l = s.m1l := rfl
@[simp] theorem State.presentBit_ntx (c : Bool) : (s.presentBit c).ntx = s.ntx := rfl
@[simp] theorem State.presentBit_wire (c : Bool) : (s.presentBit c).wire = s.wire := rfl

@[simp] theorem State.countBit_cfg : (s.countBit).cfg = s.cfg := rfl
@[simp] theorem State.countBit_host : (s.countBit).host = s.host := rfl
@[simp] theorem State.countBit_env : (s.countBit).env = s.env := rfl
@[simp] theorem State.countBit_draws : (s.countBit).draws = s.draws := rfl
@[simp] theorem State.countBit_stepwise : (s.countBit).stepwise = s.stepwise := rfl
@[simp] theorem State.countBit_inBegin : (s.countBit).inBegin = s.inBegin := rfl
@[simp] theorem State.countBit_fb : (s.countBit).fb = s.fb := rfl
@[simp] theorem State.countBit_vcom : (s.countBit).vcom = s.vcom := rfl
@[simp] theorem State.countBit_init : (s.countBit).init = s.init := rfl
@[simp] theorem State.countBit_busy : (s.countBit).busy = s.busy := rfl
@[simp] theorem State.countBit_cs : (s.countBit).cs = s.cs := rfl
@[simp] theorem State.countBit_sclk : (s.countBit).sclk = s.sclk := rfl
@[simp] theorem State.countBit_mosi : (s.countBit).mosi = s.mosi := rfl
@[simp] theorem State.countBit_opx : (s.countBit).opx = s.opx := rfl
@[simp] theorem State.countBit_opy : (s.countBit).opy = s.opy := rfl
@[simp] theorem State.countBit_opv : (s.countBit).opv = s.opv := rfl
@[simp] theorem State.countBit_res : (s.countBit).res = s.res := rfl
@[simp] theorem State.countBit_rowRes : (s.countBit).rowRes = s.rowRes := rfl
@[simp] theorem State.countBit_ok : (s.countBit).ok = s.ok := rfl
@[simp] theorem State.countBit_seq : (s.countBit).seq = { s.seq with bit := s.seq.bit + 1 } := rfl
@[simp] theorem State.countBit_shift : (s.countBit).shift = s.shift := rfl
@[simp] theorem State.countBit_kind : (s.countBit).kind = s.kind := rfl
@[simp] theorem State.countBit_m1l : (s.countBit).m1l = s.m1l := rfl
@[simp] theorem State.countBit_ntx : (s.countBit).ntx = s.ntx := rfl
@[simp] theorem State.countBit_wire : (s.countBit).wire = s.wire := rfl

@[simp] theorem State.setUpByte_cfg (b : Byte) : (s.setUpByte b).cfg = s.cfg := rfl
@[simp] theorem State.setUpByte_host (b : Byte) : (s.setUpByte b).host = s.host := rfl
@[simp] theorem State.setUpByte_env (b : Byte) : (s.setUpByte b).env = s.env := rfl
@[simp] theorem State.setUpByte_draws (b : Byte) : (s.setUpByte b).draws = s.draws := rfl
@[simp] theorem State.setUpByte_stepwise (b : Byte) : (s.setUpByte b).stepwise = s.stepwise := rfl
@[simp] theorem State.setUpByte_inBegin (b : Byte) : (s.setUpByte b).inBegin = s.inBegin := rfl
@[simp] theorem State.setUpByte_fb (b : Byte) : (s.setUpByte b).fb = s.fb := rfl
@[simp] theorem State.setUpByte_vcom (b : Byte) : (s.setUpByte b).vcom = s.vcom := rfl
@[simp] theorem State.setUpByte_init (b : Byte) : (s.setUpByte b).init = s.init := rfl
@[simp] theorem State.setUpByte_busy (b : Byte) : (s.setUpByte b).busy = s.busy := rfl
@[simp] theorem State.setUpByte_cs (b : Byte) : (s.setUpByte b).cs = s.cs := rfl
@[simp] theorem State.setUpByte_sclk (b : Byte) : (s.setUpByte b).sclk = s.sclk := rfl
@[simp] theorem State.setUpByte_mosi (b : Byte) : (s.setUpByte b).mosi =
    if !s.cfg.cpha then levelOf (shiftedBit s.cfg.bitOrder (registerByte s.cfg.bitOrder b) 0) else s.mosi := rfl
@[simp] theorem State.setUpByte_opx (b : Byte) : (s.setUpByte b).opx = s.opx := rfl
@[simp] theorem State.setUpByte_opy (b : Byte) : (s.setUpByte b).opy = s.opy := rfl
@[simp] theorem State.setUpByte_opv (b : Byte) : (s.setUpByte b).opv = s.opv := rfl
@[simp] theorem State.setUpByte_res (b : Byte) : (s.setUpByte b).res = s.res := rfl
@[simp] theorem State.setUpByte_rowRes (b : Byte) : (s.setUpByte b).rowRes = s.rowRes := rfl
@[simp] theorem State.setUpByte_ok (b : Byte) : (s.setUpByte b).ok = s.ok := rfl
@[simp] theorem State.setUpByte_seq (b : Byte) : (s.setUpByte b).seq = { s.seq with bit := 0 } := rfl
@[simp] theorem State.setUpByte_shift (b : Byte) : (s.setUpByte b).shift = registerByte s.cfg.bitOrder b := rfl
@[simp] theorem State.setUpByte_kind (b : Byte) : (s.setUpByte b).kind = s.kind := rfl
@[simp] theorem State.setUpByte_m1l (b : Byte) : (s.setUpByte b).m1l = s.m1l := rfl
@[simp] theorem State.setUpByte_ntx (b : Byte) : (s.setUpByte b).ntx = s.ntx := rfl
@[simp] theorem State.setUpByte_wire (b : Byte) : (s.setUpByte b).wire = s.wire := rfl

@[simp] theorem State.firstEdge_cfg : (s.firstEdge).cfg = s.cfg := rfl
@[simp] theorem State.firstEdge_host : (s.firstEdge).host = s.host := rfl
@[simp] theorem State.firstEdge_env : (s.firstEdge).env = s.env := rfl
@[simp] theorem State.firstEdge_draws : (s.firstEdge).draws = s.draws := rfl
@[simp] theorem State.firstEdge_stepwise : (s.firstEdge).stepwise = s.stepwise := rfl
@[simp] theorem State.firstEdge_inBegin : (s.firstEdge).inBegin = s.inBegin := rfl
@[simp] theorem State.firstEdge_fb : (s.firstEdge).fb = s.fb := rfl
@[simp] theorem State.firstEdge_vcom : (s.firstEdge).vcom = s.vcom := rfl
@[simp] theorem State.firstEdge_init : (s.firstEdge).init = s.init := rfl
@[simp] theorem State.firstEdge_busy : (s.firstEdge).busy = s.busy := rfl
@[simp] theorem State.firstEdge_cs : (s.firstEdge).cs = s.cs := rfl
@[simp] theorem State.firstEdge_sclk : (s.firstEdge).sclk = levelOf (!s.cfg.cpol) := rfl
@[simp] theorem State.firstEdge_mosi : (s.firstEdge).mosi =
    if s.cfg.cpha then levelOf (shiftedBit s.cfg.bitOrder s.shift s.seq.bit.val) else s.mosi := rfl
@[simp] theorem State.firstEdge_opx : (s.firstEdge).opx = s.opx := rfl
@[simp] theorem State.firstEdge_opy : (s.firstEdge).opy = s.opy := rfl
@[simp] theorem State.firstEdge_opv : (s.firstEdge).opv = s.opv := rfl
@[simp] theorem State.firstEdge_res : (s.firstEdge).res = s.res := rfl
@[simp] theorem State.firstEdge_rowRes : (s.firstEdge).rowRes = s.rowRes := rfl
@[simp] theorem State.firstEdge_ok : (s.firstEdge).ok = s.ok := rfl
@[simp] theorem State.firstEdge_seq : (s.firstEdge).seq = s.seq := rfl
@[simp] theorem State.firstEdge_shift : (s.firstEdge).shift = s.shift := rfl
@[simp] theorem State.firstEdge_kind : (s.firstEdge).kind = s.kind := rfl
@[simp] theorem State.firstEdge_m1l : (s.firstEdge).m1l = s.m1l := rfl
@[simp] theorem State.firstEdge_ntx : (s.firstEdge).ntx = s.ntx := rfl
@[simp] theorem State.firstEdge_wire : (s.firstEdge).wire = s.wire := rfl

@[simp] theorem State.secondEdge_cfg : (s.secondEdge).cfg = s.cfg := rfl
@[simp] theorem State.secondEdge_host : (s.secondEdge).host = s.host := rfl
@[simp] theorem State.secondEdge_env : (s.secondEdge).env = s.env := rfl
@[simp] theorem State.secondEdge_draws : (s.secondEdge).draws = s.draws := rfl
@[simp] theorem State.secondEdge_stepwise : (s.secondEdge).stepwise = s.stepwise := rfl
@[simp] theorem State.secondEdge_inBegin : (s.secondEdge).inBegin = s.inBegin := rfl
@[simp] theorem State.secondEdge_fb : (s.secondEdge).fb = s.fb := rfl
@[simp] theorem State.secondEdge_vcom : (s.secondEdge).vcom = s.vcom := rfl
@[simp] theorem State.secondEdge_init : (s.secondEdge).init = s.init := rfl
@[simp] theorem State.secondEdge_busy : (s.secondEdge).busy = s.busy := rfl
@[simp] theorem State.secondEdge_cs : (s.secondEdge).cs = s.cs := rfl
@[simp] theorem State.secondEdge_sclk : (s.secondEdge).sclk = levelOf s.cfg.cpol := rfl
@[simp] theorem State.secondEdge_mosi : (s.secondEdge).mosi =
    if !s.cfg.cpha && decide (s.seq.bit + 1 ≠ 0) then levelOf (shiftedBit s.cfg.bitOrder s.shift (s.seq.bit + 1).val)
    else s.mosi := rfl
@[simp] theorem State.secondEdge_opx : (s.secondEdge).opx = s.opx := rfl
@[simp] theorem State.secondEdge_opy : (s.secondEdge).opy = s.opy := rfl
@[simp] theorem State.secondEdge_opv : (s.secondEdge).opv = s.opv := rfl
@[simp] theorem State.secondEdge_res : (s.secondEdge).res = s.res := rfl
@[simp] theorem State.secondEdge_rowRes : (s.secondEdge).rowRes = s.rowRes := rfl
@[simp] theorem State.secondEdge_ok : (s.secondEdge).ok = s.ok := rfl
@[simp] theorem State.secondEdge_seq : (s.secondEdge).seq = { s.seq with bit := s.seq.bit + 1 } := rfl
@[simp] theorem State.secondEdge_shift : (s.secondEdge).shift = s.shift := rfl
@[simp] theorem State.secondEdge_kind : (s.secondEdge).kind = s.kind := rfl
@[simp] theorem State.secondEdge_m1l : (s.secondEdge).m1l = s.m1l := rfl
@[simp] theorem State.secondEdge_ntx : (s.secondEdge).ntx = s.ntx := rfl
@[simp] theorem State.secondEdge_wire : (s.secondEdge).wire = s.wire := rfl

@[simp] theorem State.openFrame_cfg (k : Kind) : (s.openFrame k).cfg = s.cfg := rfl
@[simp] theorem State.openFrame_host (k : Kind) : (s.openFrame k).host = s.host := rfl
@[simp] theorem State.openFrame_env (k : Kind) : (s.openFrame k).env = s.env := rfl
@[simp] theorem State.openFrame_draws (k : Kind) : (s.openFrame k).draws = s.draws := rfl
@[simp] theorem State.openFrame_stepwise (k : Kind) : (s.openFrame k).stepwise = s.stepwise := rfl
@[simp] theorem State.openFrame_inBegin (k : Kind) : (s.openFrame k).inBegin = s.inBegin := rfl
@[simp] theorem State.openFrame_fb (k : Kind) : (s.openFrame k).fb = s.fb := rfl
@[simp] theorem State.openFrame_vcom (k : Kind) : (s.openFrame k).vcom = s.vcom := rfl
@[simp] theorem State.openFrame_init (k : Kind) : (s.openFrame k).init = s.init := rfl
@[simp] theorem State.openFrame_busy (k : Kind) : (s.openFrame k).busy = s.busy := rfl
@[simp] theorem State.openFrame_cs (k : Kind) : (s.openFrame k).cs = .high := rfl
@[simp] theorem State.openFrame_sclk (k : Kind) : (s.openFrame k).sclk = s.sclk := rfl
@[simp] theorem State.openFrame_mosi (k : Kind) : (s.openFrame k).mosi = s.mosi := rfl
@[simp] theorem State.openFrame_opx (k : Kind) : (s.openFrame k).opx = s.opx := rfl
@[simp] theorem State.openFrame_opy (k : Kind) : (s.openFrame k).opy = s.opy := rfl
@[simp] theorem State.openFrame_opv (k : Kind) : (s.openFrame k).opv = s.opv := rfl
@[simp] theorem State.openFrame_res (k : Kind) : (s.openFrame k).res = s.res := rfl
@[simp] theorem State.openFrame_rowRes (k : Kind) : (s.openFrame k).rowRes = s.rowRes := rfl
@[simp] theorem State.openFrame_ok (k : Kind) : (s.openFrame k).ok = s.ok := rfl
@[simp] theorem State.openFrame_seq (k : Kind) : (s.openFrame k).seq = s.seq := rfl
@[simp] theorem State.openFrame_shift (k : Kind) : (s.openFrame k).shift = s.shift := rfl
@[simp] theorem State.openFrame_kind (k : Kind) : (s.openFrame k).kind = k := rfl
@[simp] theorem State.openFrame_m1l (k : Kind) : (s.openFrame k).m1l = s.vcom := rfl
@[simp] theorem State.openFrame_ntx (k : Kind) : (s.openFrame k).ntx = s.ntx := rfl
@[simp] theorem State.openFrame_wire (k : Kind) : (s.openFrame k).wire = s.wire ++ [.csAssert] := rfl

/-! A BEGIN that finds INIT = 1 marks nothing (41_transport_ops.md R141). -/

@[simp] theorem State.markInit_cfg : s.markInit.cfg = s.cfg := by
  unfold State.markInit; split <;> simp_all
@[simp] theorem State.markInit_host : s.markInit.host = s.host := by
  unfold State.markInit; split <;> simp_all
@[simp] theorem State.markInit_env : s.markInit.env = s.env := by
  unfold State.markInit; split <;> simp_all
@[simp] theorem State.markInit_draws : s.markInit.draws = s.draws := by
  unfold State.markInit; split <;> simp_all
@[simp] theorem State.markInit_stepwise : s.markInit.stepwise = s.stepwise := by
  unfold State.markInit; split <;> simp_all
@[simp] theorem State.markInit_inBegin : s.markInit.inBegin = s.inBegin := by
  unfold State.markInit; split <;> simp_all
@[simp] theorem State.markInit_fb : s.markInit.fb = s.fb := by
  unfold State.markInit; split <;> simp_all
@[simp] theorem State.markInit_vcom : s.markInit.vcom = (s.init && s.vcom) := by
  unfold State.markInit; split <;> simp_all
@[simp] theorem State.markInit_init : s.markInit.init = true := by
  unfold State.markInit; split <;> simp_all
@[simp] theorem State.markInit_busy : s.markInit.busy = s.busy := by
  unfold State.markInit; split <;> simp_all
@[simp] theorem State.markInit_cs : s.markInit.cs = s.cs := by
  unfold State.markInit; split <;> simp_all
@[simp] theorem State.markInit_sclk : s.markInit.sclk = s.sclk := by
  unfold State.markInit; split <;> simp_all
@[simp] theorem State.markInit_mosi : s.markInit.mosi = s.mosi := by
  unfold State.markInit; split <;> simp_all
@[simp] theorem State.markInit_opx : s.markInit.opx = s.opx := by
  unfold State.markInit; split <;> simp_all
@[simp] theorem State.markInit_opy : s.markInit.opy = s.opy := by
  unfold State.markInit; split <;> simp_all
@[simp] theorem State.markInit_opv : s.markInit.opv = s.opv := by
  unfold State.markInit; split <;> simp_all
@[simp] theorem State.markInit_res : s.markInit.res = s.res := by
  unfold State.markInit; split <;> simp_all
@[simp] theorem State.markInit_rowRes : s.markInit.rowRes = s.rowRes := by
  unfold State.markInit; split <;> simp_all
@[simp] theorem State.markInit_ok : s.markInit.ok = s.ok := by
  unfold State.markInit; split <;> simp_all
@[simp] theorem State.markInit_seq : s.markInit.seq = s.seq := by
  unfold State.markInit; split <;> simp_all
@[simp] theorem State.markInit_shift : s.markInit.shift = s.shift := by
  unfold State.markInit; split <;> simp_all
@[simp] theorem State.markInit_kind : s.markInit.kind = s.kind := by
  unfold State.markInit; split <;> simp_all
@[simp] theorem State.markInit_m1l : s.markInit.m1l = s.m1l := by
  unfold State.markInit; split <;> simp_all
@[simp] theorem State.markInit_ntx : s.markInit.ntx = (if s.init then s.ntx else 0) := by
  unfold State.markInit; split <;> simp_all
@[simp] theorem State.markInit_wire : s.markInit.wire = s.wire := by
  unfold State.markInit; split <;> simp_all

end

end Sys2Proof.Machine
end

