-- ==== Sys2Proof/Laws/Framer.lean ====
section
/-! SUPPORT. The framer primitives in closed form: what one byte, a list of bytes, a whole transmission and a BEGIN do to every field
of the state; and what the shared shape of a host operation answers. -/

namespace Sys2Proof.Machine

/-- A loaded byte in closed form. -/
theorem State.setUpByte_eq (s : State) (b : Byte) :
    s.setUpByte b =
      { s with
        shift := registerByte s.cfg.bitOrder b, seq := { s.seq with bit := 0 },
        mosi := if !s.cfg.cpha then levelOf (shiftedBit s.cfg.bitOrder (registerByte s.cfg.bitOrder b) 0) else s.mosi } := rfl

/-- The first edge in closed form. -/
theorem State.firstEdge_eq (s : State) :
    s.firstEdge =
      { s with
        sclk := levelOf (!s.cfg.cpol),
        mosi := if s.cfg.cpha then levelOf (shiftedBit s.cfg.bitOrder s.shift s.seq.bit.val) else s.mosi } := rfl

/-- The second edge in closed form. -/
theorem State.secondEdge_eq (s : State) :
    s.secondEdge =
      { s with
        sclk := levelOf s.cfg.cpol, seq := { s.seq with bit := s.seq.bit + 1 },
        mosi :=
          if !s.cfg.cpha && decide (s.seq.bit + 1 ≠ 0) then levelOf (shiftedBit s.cfg.bitOrder s.shift (s.seq.bit + 1).val)
          else s.mosi } := rfl

/-- One bit leaves everything but MOSI, SCLK and BIT as it was. -/
theorem State.shiftBit_eq (s : State) :
    ∃ p, s.shiftBit = { s with mosi := p, sclk := levelOf s.cfg.cpol, seq := { s.seq with bit := s.seq.bit + 1 } } := by
  refine ⟨s.shiftBit.mosi, ?_⟩
  rw [State.shiftBit, State.secondEdge_eq, State.firstEdge_eq]

/-- So do several. -/
theorem State.shiftBits_succ_eq (s : State) (n : Nat) :
    ∃ p, s.shiftBits (n + 1) =
      { s with mosi := p, sclk := levelOf s.cfg.cpol, seq := { s.seq with bit := s.seq.bit + Fin.ofNat 8 (n + 1) } } := by
  induction n with
  | zero => exact State.shiftBit_eq s
  | succ n ih =>
    obtain ⟨p, hp⟩ := ih
    rw [State.shiftBits, hp]
    obtain ⟨q, hq⟩ := State.shiftBit_eq
      { s with mosi := p, sclk := levelOf s.cfg.cpol, seq := { s.seq with bit := s.seq.bit + Fin.ofNat 8 (n + 1) } }
    refine ⟨q, ?_⟩
    rw [hq]
    have : s.seq.bit + Fin.ofNat 8 (n + 1) + 1 = s.seq.bit + Fin.ofNat 8 (n + 1 + 1) := by
      apply Fin.ext
      simp only [Fin.val_add, Fin.ofNat, Fin.val_one]
      omega
    simp only [this]

/-- SENDBYTE in closed form. -/
theorem State.sendByte_eq (s : State) (b : Byte) :
    s.sendByte b =
      { s with
        shift := registerByte s.cfg.bitOrder b, seq := { s.seq with bit := 0 }, sclk := levelOf s.cfg.cpol,
        mosi := levelOf (Config.freeMosi s.draws), draws := s.draws + 1, wire := s.wire ++ [.byte b] } := by
  obtain ⟨p, hp⟩ := (s.setUpByte b).shiftBits_succ_eq 7
  unfold State.sendByte
  rw [hp, State.setUpByte_eq]
  rfl

theorem State.sendBytes_append (s : State) (bs cs : List Byte) :
    s.sendBytes (bs ++ cs) = (s.sendBytes bs).sendBytes cs := List.foldl_append

/-- SENDBYTE of a list that is not empty, in closed form. -/
theorem State.sendBytes_eq (s : State) (bs : List Byte) (b : Byte) :
    s.sendBytes (bs ++ [b]) =
      { s with
        shift := registerByte s.cfg.bitOrder b, seq := { s.seq with bit := 0 }, sclk := levelOf s.cfg.cpol,
        mosi := levelOf (Config.freeMosi (s.draws + bs.length)), draws := s.draws + bs.length + 1,
        wire := s.wire ++ (bs ++ [b]).map .byte } := by
  induction bs using List.reverseRecOn generalizing b with
  | nil => exact State.sendByte_eq s b
  | append_singleton bs a ih =>
    rw [State.sendBytes_append, ih]
    show State.sendByte _ b = _
    rw [State.sendByte_eq]
    simp [Nat.add_assoc]

/-- Every frame is a command byte, a body, and the final trailer. -/
theorem frameOf_trailer (c : Config) (m : Mem) (k : Kind) (m1 : Bool) :
    ∃ body, frameOf c m k m1 = cmdByte k m1 :: body ++ [trailerByte] := by
  cases k
  · exact ⟨[], rfl⟩
  · exact ⟨(List.range c.height).flatMap (rowGroup c m), rfl⟩
  · exact ⟨[], rfl⟩

@[simp] theorem registerByte_trailer (o : BitOrder) : registerByte o trailerByte = 0#8 := by cases o <;> decide

/-- The end of a transmission in closed form. -/
theorem State.closeFrame_eq (s : State) :
    s.closeFrame =
      { s with
        cs := .low, wire := s.wire ++ [.csDeassert], vcom := !s.vcom, ntx := s.ntx + 1, seq := Seq.idlePos,
        fb := if s.kind = .clear then s.fb.fill (fbBytesOf s.cfg) 0#8 else s.fb } := by
  unfold State.closeFrame
  by_cases h : s.kind = .clear
  · simp only [State.flipVcom_kind, State.csDeassert_kind, h, if_true]; simp [State.zeroFb, State.flipVcom, State.csDeassert, State.moveSeq, State.emit, State.driveCs, h]
  · simp only [State.flipVcom_kind, State.csDeassert_kind, h, if_false]; simp [State.flipVcom, State.csDeassert, State.moveSeq, State.emit, State.driveCs]

/-- A whole transmission in closed form (41_transport_ops.md R144 to R148). -/
theorem State.transmission_eq (s : State) (k : Kind) :
    s.transmission k =
      { s with
        kind := k, m1l := s.vcom, cs := .low, vcom := !s.vcom, ntx := s.ntx + 1, seq := Seq.idlePos,
        sclk := levelOf s.cfg.cpol,
        mosi := levelOf (Config.freeMosi (s.draws + (frameOf s.cfg s.fb k s.vcom).length - 1)),
        draws := s.draws + (frameOf s.cfg s.fb k s.vcom).length,
        shift := 0#8,
        wire := s.wire ++ envelope (frameOf s.cfg s.fb k s.vcom),
        fb := if k = .clear then s.fb.fill (fbBytesOf s.cfg) 0#8 else s.fb } := by
  obtain ⟨body, hb⟩ := frameOf_trailer s.cfg s.fb k s.vcom
  unfold State.transmission
  rw [hb, State.sendBytes_eq, State.closeFrame_eq]
  simp [envelope, Nat.add_assoc, State.openFrame, State.csAssert, State.emit, State.driveCs]
  rfl

/-- A BEGIN whose acquisition succeeds, in closed form: `m1` is the polarity its clear frame carries. -/
theorem beginEffect_of_ok {s : State} (h : s.acqAnswer.acqOk = true) :
    beginEffect s =
      { s with
        env := s.env.tail, init := true, ok := true, kind := .clear, m1l := s.init && s.vcom, cs := .low,
        vcom := !(s.init && s.vcom), ntx := (if s.init then s.ntx else 0) + 1, seq := Seq.idlePos,
        sclk := levelOf s.cfg.cpol, mosi := levelOf (Config.freeMosi (s.draws + 3)), draws := s.draws + 4, shift := 0#8,
        wire := s.wire ++ .csConfig :: envelope (clearFrame (s.init && s.vcom)), fb := s.fb.fill (fbBytesOf s.cfg) 0#8 } := by
  unfold beginEffect
  rw [if_pos h, State.transmission_eq]
  cases hi : s.init <;>
    simp [State.beginAcquire, hi, State.initDone, frameOf, clearFrame, State.markInit, State.releaseMosi, State.clockIdle,
      State.configureCs, State.takeAnswer, State.driveCs, State.emit]

/-- A BEGIN whose acquisition fails, in closed form. -/
theorem beginEffect_of_fail {s : State} (h : s.acqAnswer.acqOk = false) :
    beginEffect s =
      { s with
        env := s.env.tail, draws := s.draws + 1, ok := false, cs := if s.acqAnswer.csConfigured then .low else s.cs,
        wire := if s.acqAnswer.csConfigured then s.wire ++ [.csConfig] else s.wire } := by
  unfold beginEffect
  rw [if_neg (by simp [h])]
  cases s.acqAnswer.csConfigured <;> simp [State.initFail, State.takeAnswer, State.configureCs, State.driveCs, State.emit]

theorem portCheck_eq_none {needInit : Bool} {s : State} :
    portCheck needInit s = none ↔ s.busy = false ∧ (needInit = true → s.init = true) := by
  unfold portCheck
  cases s.busy <;> cases needInit <;> cases s.init <;> simp

/-- A host operation that passes the port's checks completes with its effect. -/
theorem runOp_ready {needInit : Bool} {s : State} {f : State → State} (hb : s.busy = false)
    (hi : needInit = true → s.init = true) : runOp needInit s f = .next (f s.accept).complete := by
  unfold runOp
  rw [portCheck_eq_none.2 ⟨hb, hi⟩]

/-- All a host operation of this shape can answer. -/
theorem runOp_next {needInit : Bool} {s t : State} {f : State → State} (h : runOp needInit s f = .next t) :
    s.busy = false ∧ (needInit = true → s.init = true) ∧ t = (f s.accept).complete := by
  unfold runOp at h
  cases hc : portCheck needInit s with
  | some r => rw [hc] at h; cases h
  | none =>
    rw [hc] at h
    obtain ⟨h1, h2⟩ := portCheck_eq_none.1 hc
    cases h
    exact ⟨h1, h2, rfl⟩

/-- It never faults. -/
theorem runOp_ne_fault {needInit : Bool} {s : State} {f : State → State} {e : Fault} : runOp needInit s f ≠ .fault e := by
  unfold runOp
  split <;> simp

end Sys2Proof.Machine
end

