-- ==== Sys2Proof/Laws/Frames.lean ====
section
/-! SUPPORT. The row groups of F.WRITE: their length is the stride, and a byte of the frame by the row and the place in its group. -/

namespace Sys2Proof.Machine

@[simp] theorem length_rowGroup (c : Config) (m : Mem) (y : Nat) : (rowGroup c m y).length = rowStride c := by
  unfold rowGroup rowPayload rowTrailer rowStride
  split <;> simp <;> omega

theorem rowStride_pos (c : Config) : 0 < rowStride c := by unfold rowStride; omega

/-- Row `y`'s place `i` lies before the end of the last row. -/
theorem row_place_lt {S n y i : Nat} (hy : y < n) (hi : i < S) : y * S + i < n * S :=
  calc y * S + i < y * S + S := by omega
    _ = (y + 1) * S := by ring
    _ ≤ n * S := Nat.mul_le_mul_right _ hy

/-- Lists of one length put end to end: place `i` of list number `y`. -/
theorem getElem?_flatMap_range {α : Type} {f : Nat → List α} {S : Nat} (hf : ∀ y, (f y).length = S) {n y i : Nat} (hy : y < n)
    (hi : i < S) : ((List.range n).flatMap f)[y * S + i]? = (f y)[i]? := by
  induction n with
  | zero => omega
  | succ n ih =>
    have hlen : ((List.range n).flatMap f).length = n * S := by simp [List.length_flatMap, hf]
    rw [List.range_succ, List.flatMap_append]
    by_cases h : y < n
    · rw [List.getElem?_append_left (by rw [hlen]; exact row_place_lt h hi), ih h]
    · have hn : y = n := by omega
      subst hn
      rw [List.getElem?_append_right (by omega), hlen]
      simp

theorem length_rowGroups (c : Config) (m : Mem) (n : Nat) :
    ((List.range n).flatMap (rowGroup c m)).length = n * rowStride c := by
  simp [List.length_flatMap]

/-- Place `i` of the row group of row `y`, in the frame. -/
theorem getElem?_writeFrame (c : Config) (m : Mem) (m1 : Bool) {y i : Nat} (hy : y < c.height) (hi : i < rowStride c) :
    (writeFrame c m m1)[1 + y * rowStride c + i]? = (rowGroup c m y)[i]? := by
  have hlt := row_place_lt hy hi
  unfold writeFrame
  rw [List.getElem?_append_left (by simp; omega), List.singleton_append,
    show 1 + y * rowStride c + i = y * rowStride c + i + 1 by omega, List.getElem?_cons_succ]
  exact getElem?_flatMap_range (length_rowGroup c m) hy hi

end Sys2Proof.Machine
end

