-- ==== Sys2Proof/Laws/Trace.lean ====
section
/-! SUPPORT. Reading a trace that grows: the reader goes on from what it has seen, and an envelope of at least two bytes read at low
adds one complete frame. -/

namespace Sys2Proof.Machine

theorem readTrace_append (w w' : List Event) : readTrace (w ++ w') = (readTrace w).bind fun v => w'.foldlM readEvent v := by
  unfold readTrace
  rw [List.foldlM_append]
  rfl

/-- One more event. -/
theorem readTrace_snoc {w : List Event} {v : TraceView} (h : readTrace w = some v) (e : Event) :
    readTrace (w ++ [e]) = readEvent v e := by
  rw [readTrace_append, h]
  simp

/-- Bytes read inside an envelope are added to the open frame. -/
theorem readEvent_bytes (bs : List Byte) (d : List (List Byte)) (cur : List Byte) :
    (bs.map Event.byte).foldlM readEvent { pin := .high, done := d, cur := cur } =
      some { pin := .high, done := d, cur := cur ++ bs } := by
  induction bs generalizing cur with
  | nil => simp
  | cons b bs ih =>
    have := ih (cur ++ [b])
    simp only [List.map_cons, List.foldlM_cons, readEvent]
    simpa using this

/-- A whole envelope read at low adds its frame. -/
theorem readTrace_envelope {w : List Event} {v : TraceView} {bs : List Byte} (h : readTrace w = some v) (hp : v.pin = .low)
    (hl : 2 ≤ bs.length) : readTrace (w ++ envelope bs) = some { pin := .low, done := v.done ++ [bs], cur := [] } := by
  rw [readTrace_append, h]
  have := readEvent_bytes bs v.done []
  simp only [List.nil_append] at this
  simp [envelope, readEvent, hp, List.foldlM_append, this, hl]

theorem bytesOf_append (w w' : List Event) : bytesOf (w ++ w') = bytesOf w ++ bytesOf w' := by
  simp [bytesOf]

theorem bytesOf_envelope (bs : List Byte) : bytesOf (envelope bs) = bs := by
  have : ∀ cs : List Byte, bytesOf (cs.map Event.byte) = cs := by
    intro cs
    induction cs with
    | nil => rfl
    | cons b cs ih => simp [bytesOf]
  have h := this bs
  unfold bytesOf at h
  simp [bytesOf, envelope, List.filterMap_append, h]

end Sys2Proof.Machine
end

