-- ==== Sys2Proof/Laws/Machine.lean ====
section
/-! SUPPORT. All that can happen: what each host operation answers when it answers a next state, what the start of a transmission, a
transition of the sequencer and a whole step can do. -/

namespace Sys2Proof.Machine

theorem runOp_eq_next {n : Bool} {s t : State} {f : State → State} :
    runOp n s f = .next t ↔ s.busy = false ∧ (n = true → s.init = true) ∧ t = (f s.accept).complete := by
  constructor
  · exact runOp_next
  · rintro ⟨h1, h2, rfl⟩
    exact runOp_ready h1 h2

/-- A coordinate in range is its natural number, below the bound. -/
theorem coordNat_lt {f : Coord} {n : Nat} (h : coordInRange f n = true) : coordNat f < n := by
  simp only [coordInRange, Bool.and_eq_true, decide_eq_true_eq] at h
  unfold coordNat
  omega

/-- The address map stays inside FB (20_memory.md R52). -/
theorem pixelAddr_lt {c : Config} {x y : Nat} (hx : x < c.width) (hy : y < c.height) : pixelAddr c x y < fbBytesOf c := by
  have hi : x / 8 < rowBytesOf c := by unfold rowBytesOf; omega
  have := row_place_lt hy hi
  unfold pixelAddr fbBytesOf
  rw [Nat.mul_comm (rowBytesOf c)]
  exact this

theorem operandAddr_lt {c : Config} {x y : Coord} (h : pixelInRange c x y = true) : operandAddr c x y < fbBytesOf c := by
  simp only [pixelInRange, Bool.and_eq_true] at h
  exact pixelAddr_lt (coordNat_lt h.1) (coordNat_lt h.2)

theorem setPixelFb_wf {c : Config} {m : Mem} (h : m.wf = true) (x y : Coord) (v : Bool) : (setPixelFb c m x y v).wf = true := by
  unfold setPixelFb
  split
  · exact Mem.wf_write h _ _
  · exact h

theorem setPixelFb_bound {c : Config} {m : Mem} (h : ∀ d ∈ m, d.1 < fbBytesOf c) (x y : Coord) (v : Bool) :
    ∀ d ∈ setPixelFb c m x y v, d.1 < fbBytesOf c := by
  unfold setPixelFb
  split
  · exact Mem.bound_write h (operandAddr_lt (by assumption))
  · exact h

/-- Memory at reset has the canonical form. -/
theorem resetOf_fb_wf (c : Config) : (State.resetOf c).fb.wf = true := rfl

/-! Each host operation -/

theorem exec_setPixel_eq_next {x y : Coord} {v : Bool} {s t : State} :
    exec (.setPixel x y v) s = .next t ↔
      s.busy = false ∧ s.init = true ∧
        t = { s with opx := x, opy := y, opv := v, fb := setPixelFb s.cfg s.fb x y v, busy := false } := by
  simp only [exec, execSetPixel, runOp_eq_next, forall_const]
  exact Iff.rfl

theorem exec_getPixel_eq_next {x y : Coord} {s t : State} :
    exec (.getPixel x y) s = .next t ↔
      s.busy = false ∧ s.init = true ∧
        t = { s with opx := x, opy := y, res := getPixelBit s.cfg s.fb x y, busy := false } := by
  simp only [exec, execGetPixel, runOp_eq_next, forall_const]
  exact Iff.rfl

theorem exec_fill_eq_next {v : Bool} {s t : State} :
    exec (.fill v) s = .next t ↔
      s.busy = false ∧ s.init = true ∧ t = { s with opv := v, fb := fillFb s.cfg s.fb v, busy := false } := by
  simp only [exec, execFill, runOp_eq_next, forall_const]
  exact Iff.rfl

theorem exec_clear_eq_next {s t : State} :
    exec .clear s = .next t ↔
      s.busy = false ∧ s.init = true ∧ t = { s with opv := false, fb := fillFb s.cfg s.fb false, busy := false } := by
  simp only [exec, execClear, runOp_eq_next, forall_const]
  exact Iff.rfl

theorem exec_rowBytes_eq_next {y : Coord} {s t : State} :
    exec (.rowBytes y) s = .next t ↔
      s.busy = false ∧ s.init = true ∧ coordInRange y s.cfg.height = true ∧
        t = { s with opy := y, rowRes := rowPayload s.cfg s.fb (coordNat y), busy := false } := by
  simp only [exec, execRowBytes]
  cases hb : s.busy <;> cases hi : s.init <;> cases hc : coordInRange y s.cfg.height <;>
    simp [portCheck, hb, hi, State.complete, State.accept, eq_comm]

/-- The state after a whole transmission of kind `k`, issued in `s`. -/
def afterTransmission (s : State) (k : Kind) : State :=
  { s with
    kind := k, m1l := s.vcom, cs := .low, vcom := !s.vcom, ntx := s.ntx + 1, seq := Seq.idlePos, sclk := levelOf s.cfg.cpol,
    mosi := levelOf (Config.freeMosi (s.draws + (frameOf s.cfg s.fb k s.vcom).length - 1)),
    draws := s.draws + (frameOf s.cfg s.fb k s.vcom).length,
    shift := 0#8, busy := false,
    wire := s.wire ++ envelope (frameOf s.cfg s.fb k s.vcom),
    fb := if k = .clear then s.fb.fill (fbBytesOf s.cfg) 0#8 else s.fb }

theorem complete_transmission_accept (s : State) (k : Kind) : (s.accept.transmission k).complete = afterTransmission s k := by
  rw [State.transmission_eq]
  rfl

theorem exec_txClear_eq_next {s t : State} :
    exec .txClear s = .next t ↔ s.busy = false ∧ s.init = true ∧ t = afterTransmission s .clear := by
  simp only [exec, execTxClear, runOp_eq_next, complete_transmission_accept, forall_const]

theorem exec_txFrame_eq_next {s t : State} :
    exec .txFrame s = .next t ↔ s.busy = false ∧ s.init = true ∧ t = afterTransmission s .write := by
  simp only [exec, execTxFrame, runOp_eq_next, complete_transmission_accept, forall_const]

theorem exec_txToggle_eq_next {s t : State} :
    exec .txToggle s = .next t ↔ s.busy = false ∧ s.init = true ∧ t = afterTransmission s .toggle := by
  simp only [exec, execTxToggle, runOp_eq_next, complete_transmission_accept, forall_const]

/-- The state after a BEGIN whose acquisition succeeds. -/
def afterBegin (s : State) : State :=
  { s with
    env := s.env.tail, init := true, ok := true, kind := .clear, m1l := s.init && s.vcom, cs := .low,
    vcom := !(s.init && s.vcom), ntx := (if s.init then s.ntx else 0) + 1, seq := Seq.idlePos,
    sclk := levelOf s.cfg.cpol, mosi := levelOf (Config.freeMosi (s.draws + 3)), draws := s.draws + 4, shift := 0#8, busy := false,
    wire := s.wire ++ .csConfig :: envelope (clearFrame (s.init && s.vcom)), fb := s.fb.fill (fbBytesOf s.cfg) 0#8 }

/-- The state after a BEGIN whose acquisition fails. -/
def afterFailedBegin (s : State) : State :=
  { s with
    env := s.env.tail, draws := s.draws + 1, ok := false, cs := if s.acqAnswer.csConfigured then .low else s.cs, busy := false,
    wire := if s.acqAnswer.csConfigured then s.wire ++ [.csConfig] else s.wire }

theorem complete_beginEffect_accept (s : State) :
    (beginEffect s.accept).complete = if s.acqAnswer.acqOk then afterBegin s else afterFailedBegin s := by
  have ha : s.accept.acqAnswer = s.acqAnswer := rfl
  cases h : s.acqAnswer.acqOk
  · rw [beginEffect_of_fail (ha ▸ h)]
    rfl
  · rw [beginEffect_of_ok (ha ▸ h)]
    rfl

theorem exec_begin_eq_next {s t : State} :
    exec .beginOp s = .next t ↔ s.busy = false ∧ t = if s.acqAnswer.acqOk then afterBegin s else afterFailedBegin s := by
  simp only [exec, execBegin, runOp_eq_next, complete_beginEffect_accept, Bool.false_eq_true, false_implies, true_and]

/-! The sequencer and the step -/

theorem decodeWire_cmdByte (k : Kind) (m1 : Bool) : decodeWire (cmdByte k m1) = .ok (wireInstr k m1) := by
  cases k <;> cases m1 <;> decide

theorem exec_wireInstr (k : Kind) (v : Bool) (s : State) : exec (wireInstr k v) s = sendCommand k v s := by
  cases k <;> rfl

theorem advance_eq_next {s t : State} :
    advance s = .next t ↔ s.betweenBytes = true ∧ seqInRange s.cfg s.seq = true ∧ t = sequencerMove s := by
  unfold advance
  cases s.betweenBytes <;> cases seqInRange s.cfg s.seq <;> simp [eq_comm]

theorem startTransmission_eq_next {k : Kind} {s t : State} :
    startTransmission k s = .next t ↔ s.busy = false ∧ s.init = true ∧ t = s.accept.startFrame k := by
  unfold startTransmission
  cases hb : s.busy <;> cases hi : s.init <;> simp [portCheck, hb, hi, eq_comm]

/-- The state at the start of the clear of a BEGIN whose acquisition succeeds. -/
def beginStarted (s : State) : State :=
  { s.accept.takeAnswer.beginAcquire.startFrame .clear with inBegin := true }

theorem startBegin_eq_next {s t : State} :
    startBegin s = .next t ↔ s.busy = false ∧ t = if s.acqAnswer.acqOk then beginStarted s else afterFailedBegin s := by
  have ha : s.accept.acqAnswer = s.acqAnswer := rfl
  have hc := complete_beginEffect_accept s
  unfold startBegin
  cases hb : s.busy <;> cases h : s.acqAnswer.acqOk <;> simp [portCheck, hb, ha, h, beginStarted, eq_comm]
  rw [hc, h]
  simp

/-- All a step that answers a next state has done. -/
theorem step_cases {s t : State} (h : step s = .next t) :
    (s.seq.phase = .idle ∧ s.host = [] ∧ t = s) ∨
    (∃ w rest i, s.seq.phase = .idle ∧ s.host = w :: rest ∧ s.busy = false ∧ decodeHost w = .ok i ∧
      (if s.stepwise then startOp i { s with host := rest } else exec i { s with host := rest }) = .next t) ∨
    (s.seq.phase = .cmd ∧ s.betweenBytes = true ∧ t = (s.sendByte (cmdByte s.kind s.m1l)).moveSeq (afterCommand s.kind)) ∨
    (s.seq.phase ≠ .idle ∧ s.seq.phase ≠ .cmd ∧ s.betweenBytes = true ∧ seqInRange s.cfg s.seq = true ∧ t = sequencerMove s) := by
  unfold step fetch at h
  split at h
  · rename_i hp
    unfold fetchHost at h
    split at h
    · cases h
      exact .inl ⟨hp, by assumption, rfl⟩
    · split at h
      · cases h
      · split at h
        · cases h
        · exact .inr (.inl ⟨_, _, _, hp, by assumption, by simp_all, by assumption, h⟩)
  · rename_i hp
    rw [fetchCommand, decodeWire_cmdByte] at h
    simp only [runFetched, exec_wireInstr, sendCommand, State.atCommand, hp] at h
    split at h
    · rename_i hh
      cases h
      simp only [Bool.and_eq_true] at hh
      exact .inr (.inr (.inl ⟨hp, hh.2, rfl⟩))
    · cases h
  · rename_i h1 h2
    simp only [runFetched] at h
    obtain ⟨a, b, c⟩ := advance_eq_next.1 h
    exact .inr (.inr (.inr ⟨h1, h2, a, b, c⟩))

/-- In CMD, between two bytes, a step sends the command byte. -/
theorem step_cmd {s : State} (hp : s.seq.phase = .cmd) (hb : s.betweenBytes = true) :
    step s = .next ((s.sendByte (cmdByte s.kind s.m1l)).moveSeq (afterCommand s.kind)) := by
  unfold step fetch
  rw [hp]
  simp only [fetchCommand, decodeWire_cmdByte, runFetched, exec_wireInstr, sendCommand, State.atCommand, hp, hb]
  simp

/-- Elsewhere in a transmission a step moves the sequencer. -/
theorem step_move {s : State} (h1 : s.seq.phase ≠ .idle) (h2 : s.seq.phase ≠ .cmd) : step s = advance s := by
  unfold step fetch
  split
  · contradiction
  · contradiction
  · rfl

/-- A host word decodes to a core instruction of the host port: never to CLEAR, never to a wire command. -/
theorem decodeHost_ok {w : HostWord} {i : Instr} (h : decodeHost w = .ok i) : i.wellFormed = true ∧ ∃ u, encode i = .host u := by
  unfold decodeHost at h
  split at h
  · unfold decodeOp at h
    repeat' split at h
    all_goals first
      | (cases h; exact ⟨rfl, _, rfl⟩)
      | cases h
  · cases h

end Sys2Proof.Machine
end

