-- ==== Sys2Proof/Laws/PerInstr.lean ====
section
/-! SUPPORT. The rows of spec/opcode_table.json, one for each instruction: under its row's mask an instruction's word is the row's
match. -/

namespace Sys2Proof.Laws.TableRow

/-- The match and the mask of an instruction's row (30_encoding.md R82, R84, R99), and its interface. -/
def row : Instr → Word × Word
  | .beginOp => (.host 0x1000000000#40, .host 0xFE00000000#40)
  | .setPixel _ _ _ => (.host 0x2000000000#40, .host 0xFE00000000#40)
  | .getPixel _ _ => (.host 0x3000000000#40, .host 0xFE00000000#40)
  | .fill _ => (.host 0x4000000000#40, .host 0xFE00000000#40)
  | .clear => (.host 0x4000000000#40, .host 0xFF00000000#40)
  | .rowBytes _ => (.host 0x5000000000#40, .host 0xFE00000000#40)
  | .txClear => (.host 0x8000000000#40, .host 0xFE00000000#40)
  | .txFrame => (.host 0x9000000000#40, .host 0xFE00000000#40)
  | .txToggle => (.host 0xA000000000#40, .host 0xFE00000000#40)
  | .wWrite _ => (.wire 0x01#8, .wire 0xFD#8)
  | .wClear _ => (.wire 0x04#8, .wire 0xFD#8)
  | .wToggle _ => (.wire 0x00#8, .wire 0xFD#8)

/-- Whether a word is `pattern` under `mask`, on one interface. -/
def matchesRow (u pattern mask : Word) : Bool :=
  match u, pattern, mask with
  | .host w, .host p, .host m => w &&& m == p
  | .wire b, .wire p, .wire m => b &&& m == p
  | _, _, _ => false

/-- An instruction's word matches its row of the table. -/
def Statement (i : Instr) : Prop := matchesRow (encode i) (row i).1 (row i).2 = true

/-- Under a mask that keeps its top seven bits a host word is the word of its operation code alone. -/
theorem hostWord_top (op : BitVec 4) (v : Bool) (x y : Coord) :
    hostWord op v x y &&& 0xFE00000000#40 = hostWord op false 0#16 0#16 := by
  apply BitVec.eq_of_getLsbD_eq
  intro i hi
  have hg : ∀ (u : Bool) (a b : Coord), (hostWord op u a b).getLsbD i =
      if i < 16 then b.getLsbD i else if i - 16 < 16 then a.getLsbD (i - 16)
      else if i - 16 - 16 < 1 then (BitVec.ofBool u).getLsbD (i - 16 - 16)
      else if i - 16 - 16 - 1 < 3 then (0#3).getLsbD (i - 16 - 16 - 1) else op.getLsbD (i - 16 - 16 - 1 - 3) := by
    intro u a b
    show (op ++ 0#3 ++ BitVec.ofBool u ++ a ++ b).getLsbD i = _
    simp only [BitVec.getLsbD_append]
  have hm : (0xFE00000000#40).getLsbD i = decide (33 ≤ i) := by
    clear hg
    revert i
    decide
  rw [BitVec.getLsbD_and, hg, hg, hm]
  by_cases h : i < 33
  · have h' : decide (33 ≤ i) = false := by simp; omega
    rw [h', Bool.and_false]
    split
    · simp
    · split
      · simp
      · simp [show i - 16 - 16 < 1 by omega]
  · simp [show ¬i < 16 by omega, show ¬i - 16 < 16 by omega, show ¬i - 16 - 16 < 1 by omega, show 33 ≤ i by omega]

theorem host_matches (op : BitVec 4) (v : Bool) (x y : Coord) :
    matchesRow (.host (hostWord op v x y)) (.host (hostWord op false 0#16 0#16)) (.host 0xFE00000000#40) = true := by
  simp [matchesRow, hostWord_top]

theorem beginOp : Statement .beginOp := by unfold Statement; decide

theorem setPixel (x y : Coord) (v : Bool) : Statement (.setPixel x y v) := host_matches 0x2#4 v x y

theorem getPixel (x y : Coord) : Statement (.getPixel x y) := host_matches 0x3#4 false x y

theorem fill (v : Bool) : Statement (.fill v) := host_matches 0x4#4 v 0#16 0#16

theorem clear : Statement .clear := by unfold Statement; decide

theorem rowBytes (y : Coord) : Statement (.rowBytes y) := host_matches 0x5#4 false 0#16 y

theorem txClear : Statement .txClear := by unfold Statement; decide

theorem txFrame : Statement .txFrame := by unfold Statement; decide

theorem txToggle : Statement .txToggle := by unfold Statement; decide

theorem wWrite (v : Bool) : Statement (.wWrite v) := by unfold Statement; cases v <;> decide

theorem wClear (v : Bool) : Statement (.wClear v) := by unfold Statement; cases v <;> decide

theorem wToggle (v : Bool) : Statement (.wToggle v) := by unfold Statement; cases v <;> decide

end Sys2Proof.Laws.TableRow
end

