-- ==== Sys2Proof/Tests/Slice0.lean ====
section
/-! SUPPORT. The model's own tests: ill-formed parameters and words refused, words decoded, single steps against the vectors of
spec/95_test_vectors.md, and for each statement with hypotheses a witness that meets them. -/

namespace Sys2Proof.Tests

open Sys2Proof Sys2Proof.Machine

/-! Helpers -/

/-- 8 by 2, MSB_FIRST, row trailers, REVERSE_SW, 2 MHz. -/
def cfg82 : Config :=
  { widthLessOne := 7, heightLessOne := 1, packOrder := .msbFirst, perRowTrailer := true, bitOrder := .reverseSw,
    fSclkLessOne := 1999999, cpol := false, cpha := false, tCsSetupLessOne := 0, tCsHoldLessOne := 0 }

/-- 12 by 3, MSB_FIRST, no row trailers, NATIVE_LSB, 500 kHz: four padding bits in each row. -/
def cfg123 : Config :=
  { widthLessOne := 11, heightLessOne := 2, packOrder := .msbFirst, perRowTrailer := false, bitOrder := .nativeLsb,
    fSclkLessOne := 499999, cpol := true, cpha := true, tCsSetupLessOne := 5999, tCsHoldLessOne := 1999 }

/-- 160 by 68, MSB_FIRST, row trailers. -/
def cfg160 : Config := { cfg82 with widthLessOne := 159, heightLessOne := 67 }

/-- READY after a first BEGIN (70_reset_and_hazards.md R233), with the contents `m` and the host words `ws` to come. -/
def ready (c : Config) (m : Mem) (ws : List HostWord) : State :=
  { State.resetOf c with
    host := ws, fb := m, init := true, vcom := true, ntx := 1, cs := .low, sclk := levelOf c.cpol, ok := true,
    wire := [.csConfig, .csAssert, .byte 0x04#8, .byte 0x00#8, .csDeassert] }

/-- Reset, with the environment's answers and the host words to come. -/
def fresh (c : Config) (env : List AcqAnswer) (ws : List HostWord) : State := { State.resetOf c with env := env, host := ws }

/-- Inside a transmission of kind `k` at the position `p`. -/
def inside (c : Config) (m : Mem) (k : Kind) (p : Seq) (w : List Event) : State :=
  { ready c m [] with
    busy := true, kind := k, m1l := true, cs := .high, seq := p, wire := (ready c m []).wire ++ .csAssert :: w }

/-- FB = 80 01 of the 8 by 2 vectors. -/
def fb82 : Mem := [(0, 0x80#8), (1, 0x01#8)]

/-- FB = 7F FF FF FF FF EF of the 12 by 3 vectors. -/
def fb123 : Mem := [(0, 0x7F#8), (1, 0xFF#8), (2, 0xFF#8), (3, 0xFF#8), (4, 0xFF#8), (5, 0xEF#8)]

/-- Whether an outcome is a next state with the property `p`. -/
def nextWith (r : Result) (p : State → Bool) : Bool :=
  match r with
  | .next t => p t
  | .fault _ => false
  | .refused _ => false

/-- Whether an outcome is the refusal `q`. -/
def refusedWith (r : Result) (q : Refusal) : Bool :=
  match r with
  | .next _ => false
  | .fault _ => false
  | .refused q' => decide (q' = q)

/-! Well-formedness: each check of 00_scope.md R7, and what is not a core instruction -/

def rawOk : RawConfig :=
  { width := 160, height := 68, packOrder := .msbFirst, perRowTrailer := true, bitOrder := .nativeLsb, fSclk := 2000000,
    cpol := false, cpha := false, tCsSetup := 6000, tCsHold := 2000 }

theorem test_raw_ok : rawOk.wellFormed = true := by decide
theorem test_raw_least : RawConfig.wellFormed { rawOk with width := 1, height := 1, fSclk := 1, tCsSetup := 1, tCsHold := 1 } = true := by
  decide
theorem test_raw_greatest : RawConfig.wellFormed { rawOk with width := 32767, height := 255 } = true := by decide
theorem test_raw_width_0 : RawConfig.wellFormed { rawOk with width := 0 } = false := by decide
theorem test_raw_width_32768 : RawConfig.wellFormed { rawOk with width := 32768 } = false := by decide
theorem test_raw_height_0 : RawConfig.wellFormed { rawOk with height := 0 } = false := by decide
theorem test_raw_height_256 : RawConfig.wellFormed { rawOk with height := 256 } = false := by decide
theorem test_raw_rate_0 : RawConfig.wellFormed { rawOk with fSclk := 0 } = false := by decide
theorem test_raw_rate_too_fast : RawConfig.wellFormed { rawOk with fSclk := 2000001 } = false := by decide
theorem test_raw_setup_0 : RawConfig.wellFormed { rawOk with tCsSetup := 0 } = false := by decide
theorem test_raw_hold_0 : RawConfig.wellFormed { rawOk with tCsHold := 0 } = false := by decide
theorem test_construct_refuses : refusedWith (construct { rawOk with height := 256 }) .badConfig = true := by decide
theorem test_construct_casts : nextWith (construct rawOk) (fun s => decide (s.cfg.width = 160 ∧ s.cfg.height = 68)) = true := by decide
theorem test_clear_not_core : Instr.wellFormed .clear = false := by decide

/-! Decoding: a word for each row of the table, written out from 30_encoding.md R81, R82, R84 (95_test_vectors.md B1 to B10), and the
words refused -/

theorem test_decode_begin : decodeTableWord 40 0x10FFFFFFFF = some .beginOp := by decide
theorem test_decode_setPixel : decodeTableWord 40 0x21009F0043 = some (.setPixel 159#16 67#16 true) := by decide
theorem test_decode_setPixel_negative : decodeTableWord 40 0x20FFFF0001 = some (.setPixel (-1#16) 1#16 false) := by decide
theorem test_decode_getPixel : decodeTableWord 40 0x30000A0002 = some (.getPixel 10#16 2#16) := by decide
theorem test_decode_fill : decodeTableWord 40 0x41FFFFFFFF = some (.fill true) := by decide
theorem test_decode_clear_is_fill : decodeTableWord 40 0x4000000000 = some (expand .clear) := by decide
theorem test_decode_rowBytes : decodeTableWord 40 0x5000000044 = some (.rowBytes 68#16) := by decide
theorem test_decode_txClear : decodeTableWord 40 0x8000000000 = some .txClear := by decide
theorem test_decode_txFrame : decodeTableWord 40 0x9000000000 = some .txFrame := by decide
theorem test_decode_txToggle : decodeTableWord 40 0xA000000000 = some .txToggle := by decide
theorem test_decode_wWrite : decodeTableWord 8 0x03 = some (.wWrite true) := by decide
theorem test_decode_wClear : decodeTableWord 8 0x06 = some (.wClear true) := by decide
theorem test_decode_wToggle : decodeTableWord 8 0x00 = some (.wToggle false) := by decide
theorem test_decode_reserved :
    decodeTableWord 40 0x0000000000 = none ∧ decodeTableWord 40 0x6000000000 = none ∧ decodeTableWord 40 0x7000000000 = none ∧
    decodeTableWord 40 0xB000000000 = none ∧ decodeTableWord 40 0xF000000000 = none ∧ decodeTableWord 40 0x2200000000 = none := by
  decide
theorem test_decode_never_emitted :
    decodeTableWord 8 0x05 = none ∧ decodeTableWord 8 0x07 = none ∧ decodeTableWord 8 0x08 = none ∧ decodeTableWord 8 0x80 = none := by
  decide
theorem test_encode_setPixel : encode (.setPixel 5#16 5#16 true) = .host 0x2100050005#40 := by decide
theorem test_encode_clear : encode .clear = .host 0x4000000000#40 := by decide

/-! Single steps, at most two for each instruction; vectors of 95_test_vectors.md -/

/-- B8 row 1. -/
theorem test_begin_first :
    nextWith (step (fresh cfg82 [⟨true, false⟩] [0x1000000000#40])) (fun t => decide (t.wire =
      [.csConfig, .csAssert, .byte 0x04#8, .byte 0x00#8, .csDeassert] ∧ t.vcom = true ∧ t.ntx = 1 ∧ t.ok = true ∧ t.cs = .low)) = true := by
  decide
/-- P7 step 3: a repeated BEGIN carries M1 = 1. -/
theorem test_begin_again :
    nextWith (step { ready cfg82 [(0, 0x80#8)] [0x1000000000#40] with env := [⟨true, false⟩] }) (fun t => decide (t.wire.drop 5 =
      [.csConfig, .csAssert, .byte 0x06#8, .byte 0x00#8, .csDeassert] ∧ t.vcom = false ∧ t.ntx = 2 ∧ t.fb = [])) = true := by
  decide
/-- B1 row 5: the last byte of 160 by 68. -/
theorem test_setPixel_last :
    nextWith (step (ready cfg160 [] [0x21009F0043#40])) (fun t => decide (t.fb = [(1359, 0x01#8)] ∧ t.vcom = true)) = true := by decide
/-- B1 row 14: no spill into row 1. -/
theorem test_setPixel_no_spill : nextWith (step (ready cfg160 [] [0x2100A00000#40])) (fun t => decide (t.fb = [])) = true := by decide
/-- B2: the stored bit, and P2 step 9: the default although the padding bit is 1. -/
theorem test_getPixel_stored :
    nextWith (step (ready cfg160 [(100, 0x04#8)] [0x3000050005#40])) (fun t => decide (t.res = true)) = true := by decide
theorem test_getPixel_padding :
    nextWith (step { ready cfg123 fb123 [0x30000C0000#40] with res := true }) (fun t => decide (t.res = false ∧ t.fb = fb123)) = true := by
  decide
/-- B3 row 1: every byte, padding bits included. -/
theorem test_fill_on :
    nextWith (step (ready cfg123 [(3, 0x12#8)] [0x4100000000#40]))
      (fun t => decide (t.fb.readRange 0 6 = List.replicate 6 0xFF#8 ∧ t.wire.length = 5 ∧ t.ntx = 1)) = true := by decide
/-- B3 row 2. -/
theorem test_fill_off : nextWith (step (ready cfg123 fb123 [0x4000000000#40])) (fun t => decide (t.fb = [])) = true := by decide
/-- B3 row 3. -/
theorem test_clear :
    nextWith (exec .clear (ready cfg123 fb123 [])) (fun t => decide (t.fb = [] ∧ t.vcom = true ∧ t.ntx = 1 ∧ t.wire.length = 5)) = true := by
  decide
/-- B4 rows 2 and 3. -/
theorem test_rowBytes_last :
    nextWith (step (ready cfg123 fb123 [0x5000000002#40])) (fun t => decide (t.rowRes = [0xFF#8, 0xEF#8])) = true := by decide
theorem test_rowBytes_refused : refusedWith (step (ready cfg123 fb123 [0x5000000003#40])) .rowOutOfRange = true := by decide
/-- B7 row 3. -/
theorem test_txClear :
    nextWith (step (ready cfg82 fb82 [0x8000000000#40])) (fun t => decide (t.wire.drop 5 =
      [.csAssert, .byte 0x06#8, .byte 0x00#8, .csDeassert] ∧ t.vcom = false ∧ t.ntx = 2 ∧ t.fb = [])) = true := by decide
set_option maxRecDepth 4000 in
/-- B7 row 5. -/
theorem test_txFrame :
    nextWith (step (ready cfg82 fb82 [0x9000000000#40])) (fun t => decide (t.wire.drop 5 =
      envelope [0x03#8, 0x01#8, 0x80#8, 0x00#8, 0x02#8, 0x01#8, 0x00#8, 0x00#8] ∧ t.vcom = false ∧ t.fb = fb82)) = true := by decide
/-- B7 rows 1 and 2. -/
theorem test_txToggle :
    nextWith (step (ready cfg82 fb82 [0xA000000000#40])) (fun t => decide (t.wire.drop 5 =
      [.csAssert, .byte 0x02#8, .byte 0x00#8, .csDeassert] ∧ t.vcom = false ∧ t.fb = fb82)) = true := by decide
theorem test_txToggle_other_polarity :
    nextWith (step { ready cfg82 fb82 [0xA000000000#40] with vcom := false }) (fun t => decide (t.wire.drop 5 =
      [.csAssert, .byte 0x00#8, .byte 0x00#8, .csDeassert] ∧ t.vcom = true)) = true := by decide
/-- B11 step 2, and B9: what is handed to the peripheral for 03 under REVERSE_SW. -/
theorem test_wWrite :
    nextWith (step (inside cfg82 fb82 .write ⟨.cmd, 0, 0, 0⟩ []))
      (fun t => decide (t.wire.drop 6 = [.byte 0x03#8] ∧ t.seq = ⟨.addr, 0, 0, 0⟩ ∧ t.shift = 0xC0#8)) = true := by decide
/-- B11, the walk of TXCLEAR and of TXTOGGLE. -/
theorem test_wClear :
    nextWith (step (inside cfg82 fb82 .clear ⟨.cmd, 0, 0, 0⟩ []))
      (fun t => decide (t.wire.drop 6 = [.byte 0x06#8] ∧ t.seq = ⟨.finalTrail, 0, 0, 0⟩ ∧ t.fb = fb82)) = true := by decide
theorem test_wToggle :
    nextWith (step (inside cfg123 fb82 .toggle ⟨.cmd, 0, 0, 0⟩ []))
      (fun t => decide (t.wire.drop 6 = [.byte 0x02#8] ∧ t.seq = ⟨.finalTrail, 0, 0, 0⟩ ∧ t.shift = 0x02#8)) = true := by decide
theorem test_wToggle_elsewhere : refusedWith (exec (.wToggle true) (ready cfg82 [] [])) .outOfSequence = true := by decide
/-- B11 steps 4 and 5. -/
theorem test_data_to_rowTrail :
    nextWith (step (inside cfg82 fb82 .write ⟨.data, 0, 0, 0⟩ [.byte 0x03#8, .byte 0x01#8]))
      (fun t => decide (t.wire.drop 8 = [.byte 0x80#8] ∧ t.seq = ⟨.rowTrail, 0, 0, 0⟩)) = true := by decide
/-- B9. -/
theorem test_rev8 : rev8 0xB0#8 = 0x0D#8 ∧ rev8 0x44#8 = 0x22#8 ∧ rev8 0x7F#8 = 0xFE#8 ∧ rev8 0xEF#8 = 0xF7#8 := by decide
theorem test_wireBits : wireBits 0xB0#8 = [false, false, false, false, true, true, false, true] := by decide
/-- 42_framer_primitives.md R185: with CPHA = 0 the second edge of the first pulse puts bit 1 on MOSI; with CPHA = 1 the first edge puts
bit 0 there, which was not there before. -/
theorem test_edges_cpha0 :
    (((ready cfg82 [] []).setUpByte 0x02#8).shiftBits 1).mosi = .high ∧ ((ready cfg82 [] []).setUpByte 0x02#8).firstEdge.mosi = .low := by
  decide
theorem test_edges_cpha1 :
    ((ready cfg123 [] []).setUpByte 0x01#8).mosi = .z ∧ ((ready cfg123 [] []).setUpByte 0x01#8).firstEdge.mosi = .high ∧
    (((ready cfg123 [] []).setUpByte 0x01#8).shiftBits 1).mosi = .high := by decide
/-- B10, the last column. -/
theorem test_not_initialised : refusedWith (step (fresh cfg160 [] [0x5000000044#40])) .notInitialised = true := by decide
theorem test_reserved_first : refusedWith (step (fresh cfg160 [] [0x2200000000#40])) .reservedOp = true := by decide
/-- A word placed where the next step takes it: each interface. -/
theorem test_withFetchWord_host :
    nextWith (step ((ready cfg82 [] []).withFetchWord 40 0x2100000000)) (fun t => decide (t.fb = [(0, 0x80#8)])) = true := by decide
theorem test_withFetchWord_wire :
    nextWith (step ((State.resetOf cfg82).withFetchWord 8 0x01)) (fun t => decide (t.wire = [.byte 0x01#8])) = true := by decide
/-- 30_encoding.md R98. -/
theorem test_assemble : assemble "SETPIXEL" [.num 5, .num (-1), .on] = some (.setPixel 5#16 0xFFFF#16 true) := by decide

/-! The invariant holds of concrete states: reset, a READY state, and the middle of a transmission -/

theorem one_frame {i : Nat} {f g : List Byte} (h : [g][i]? = some f) : i = 0 ∧ f = g := by
  cases i with
  | zero => simpa [eq_comm] using h
  | succ n => simp at h

theorem inv_ready82 (ws : List HostWord) : Inv (ready cfg82 fb82 ws) where
  memWf := by show Mem.wf fb82 = true; decide
  memBound := by show ∀ c ∈ fb82, c.1 < fbBytesOf cfg82; decide
  polarity := fun _ => rfl
  untouched := fun h => by cases h
  idlePos := fun _ => ⟨rfl, rfl, rfl⟩
  running := fun h => absurd rfl h
  rowsOfWrite := fun h => by rcases h with h | h | h <;> cases h
  csHigh := by simp [ready, State.resetOf, Seq.idlePos]
  csDriven := by simp [ready]
  clockRests := fun _ => rfl
  trace := ⟨{ pin := .low, done := [[0x04#8, 0x00#8]], cur := [] }, rfl, rfl, rfl,
    fun f h => ⟨.clear, [], false, List.mem_singleton.1 h⟩,
    fun i f h => by obtain ⟨rfl, rfl⟩ := one_frame h; rfl, fun h => absurd rfl h⟩

/-- In ADDR of a WRITE transmission, the command byte sent. -/
def midFrame : State := inside cfg82 fb82 .write ⟨.addr, 0, 0, 0⟩ [.byte 0x03#8]

theorem inv_midFrame : Inv midFrame where
  memWf := by decide
  memBound := by decide
  polarity := fun _ => rfl
  untouched := fun h => by cases h
  idlePos := fun h => by cases h
  running := fun _ => ⟨rfl, rfl, by decide, rfl⟩
  rowsOfWrite := fun _ => rfl
  csHigh := by simp [midFrame, inside]
  csDriven := by simp [midFrame, inside]
  clockRests := fun _ => rfl
  trace := ⟨{ pin := .high, done := [[0x04#8, 0x00#8]], cur := [0x03#8] }, rfl, rfl, rfl,
    fun f h => ⟨.clear, [], false, List.mem_singleton.1 h⟩,
    fun i f h => by obtain ⟨rfl, rfl⟩ := one_frame h; rfl, fun _ => by decide⟩

/-! Witnesses: for each statement with hypotheses, states and operands that meet them, each clause at a boundary -/

theorem witness_DecodeOfEncodeIsTheInstruction : Instr.wellFormed (.setPixel 0xFFFF#16 0x7FFF#16 true) = true := by decide

theorem witness_DecodedWordsEncodeBack :
    decode (.host 0x41FFFFFFFF#40) = .ok (.fill true) ∧ decode (.wire 0x06#8) = .ok (.wClear true) := by decide

theorem witness_ReservedHostWordsAreRefused :
    (fresh cfg82 [] [0x2200000000#40]).seq.phase = .idle ∧ (fresh cfg82 [] [0x2200000000#40]).busy = false ∧
    rsvField 0x2200000000#40 ≠ 0#3 ∧ opField 0xF000000000#40 = 0xF#4 ∧ rsvField 0xF000000000#40 = 0#3 := by decide

theorem witness_OperandsAreFieldsOfTheWord :
    (ready cfg82 [] [0x21FFFF0043#40]).seq.phase = .idle ∧
    (ready cfg82 [] [0x21FFFF0043#40]).init = true ∧ (ready cfg82 [] [0x21FFFF0043#40]).busy = false ∧
    (opField 0x21FFFF0043#40 = 0x2#4 ∧ rsvField 0x21FFFF0043#40 = 0#3) ∧ (opField 0x31FFFF8000#40 = 0x3#4 ∧ rsvField 0x31FFFF8000#40 = 0#3) ∧
    (opField 0x4100000000#40 = 0x4#4 ∧ rsvField 0x4100000000#40 = 0#3) ∧ (opField 0x5000000001#40 = 0x5#4 ∧ rsvField 0x5000000001#40 = 0#3) ∧
    coordInRange ((0x5000000001#40).extractLsb' 0 16) cfg82.height = true := by decide

theorem witness_StepRunsTheDecodedInstruction :
    (ready cfg82 [] [0xA000000000#40]).seq.phase = .idle ∧ (ready cfg82 [] [0xA000000000#40]).busy = false ∧
    decode (.host 0xA000000000#40) = .ok .txToggle ∧ (ready cfg82 [] []).stepwise = false ∧
    State.stepwise { ready cfg82 [] [0xA000000000#40] with stepwise := true } = true ∧
    (inside cfg82 [] .toggle ⟨.cmd, 0, 0, 0⟩ []).seq.phase = .cmd ∧ (ready cfg82 [] []).host = [] := by decide

theorem witness_AssemblerRoundTrip :
    disassemble (.getPixel 0x8000#16 0x7FFF#16) = some ("GETPIXEL", [.num (-32768), .num 32767]) := by decide

theorem witness_OnlyWellFormedParametersMakeAnInstance :
    rawOk.wellFormed = true ∧ RawConfig.wellFormed { rawOk with height := 256 } = false := by decide

theorem witness_PixelMapIsBoundedAndInjective :
    11 < cfg123.width ∧ 2 < cfg123.height ∧ pixelAddr cfg123 11 2 = 5 ∧ fbBytesOf cfg123 = 6 := by decide

theorem witness_SetPixelChangesExactlyItsBit :
    ((fresh cfg123 [] []).busy = false ∧ (fresh cfg123 [] []).init = false) ∧
    (ready cfg123 fb123 []).init = true ∧ (ready cfg123 fb123 []).busy = false ∧ (ready cfg123 fb123 []).fb.wf = true ∧
    pixelInRange cfg123 11#16 2#16 = true ∧ pixelInRange cfg123 12#16 2#16 = false := by decide

theorem witness_GetPixelReturnsTheStoredBit :
    ((fresh cfg123 [] []).busy = false ∧ (fresh cfg123 [] []).init = false) ∧
    (ready cfg123 fb123 []).init = true ∧ (ready cfg123 fb123 []).busy = false := by decide

theorem witness_OutOfRangePixelsAreNoOps :
    (ready cfg123 fb123 []).init = true ∧ (ready cfg123 fb123 []).busy = false ∧
    pixelInRange cfg123 12#16 0#16 = false ∧ pixelInRange cfg123 0#16 3#16 = false ∧ pixelInRange cfg123 0xFFFF#16 0#16 = false := by
  decide

theorem witness_FillWritesEveryByte :
    ((fresh cfg123 [] []).busy = false ∧ (fresh cfg123 [] []).init = false) ∧
    (ready cfg123 fb123 []).init = true ∧ (ready cfg123 fb123 []).busy = false := by decide

theorem witness_ClearIsFillZero :
    ((fresh cfg123 [] []).busy = false ∧ (fresh cfg123 [] []).init = false) ∧
    (ready cfg123 fb123 []).init = true ∧ (ready cfg123 fb123 []).busy = false := by decide

theorem witness_RowBytesReturnsTheRow :
    ((fresh cfg123 [] []).busy = false ∧ (fresh cfg123 [] []).init = false) ∧
    (ready cfg123 fb123 []).init = true ∧ (ready cfg123 fb123 []).busy = false ∧
    (0 ≤ (2#16).toInt ∧ (2#16).toInt < cfg123.height) ∧ (cfg123.height : Int) ≤ (3#16).toInt ∧ (0xFFFF#16).toInt < 0 := by decide

theorem witness_FrameBufferLaws :
    (ready cfg123 fb123 []).init = true ∧ (ready cfg123 fb123 []).busy = false ∧ (ready cfg123 fb123 []).fb.wf = true ∧
    pixelInRange cfg123 0#16 0#16 = true ∧ pixelInRange cfg123 11#16 2#16 = true ∧ pixelInRange cfg123 12#16 0#16 = false := by decide

theorem witness_PaddingBitsAreRealStorage :
    (ready cfg123 fb123 []).init = true ∧ (ready cfg123 fb123 []).busy = false ∧ (ready cfg123 fb123 []).fb.wf = true ∧
    5 < fbBytesOf cfg123 ∧
    ∀ x < cfg123.width, ∀ y < cfg123.height, ¬(pixelAddr cfg123 x y = 5 ∧ bitpos cfg123.packOrder x = 3) := by decide

theorem witness_PixelsAndRowBytesAgree :
    (ready cfg123 fb123 []).init = true ∧ (ready cfg123 fb123 []).busy = false ∧ pixelInRange cfg123 11#16 2#16 = true := by decide

theorem witness_PixelWritesAreIdempotent :
    (ready cfg123 fb123 []).init = true ∧ (ready cfg123 fb123 []).busy = false ∧ (ready cfg123 fb123 []).fb.wf = true ∧
    coordInRange 2#16 cfg123.height = true := by decide

theorem witness_NothingRunsBeforeBegin :
    isHostOp .clear = true ∧ (fresh cfg82 [] []).busy = false ∧ (fresh cfg82 [] []).init = false := by decide

theorem witness_BusyPortRefuses :
    isHostOp .beginOp = true ∧ (inside cfg82 [] .write ⟨.addr, 0, 0, 0⟩ []).busy = true ∧
    State.busy { ready cfg82 [] [0x1000000000#40] with busy := true } = true ∧ (ready cfg82 [] [0x1000000000#40]).seq.phase = .idle := by
  decide

theorem witness_FirstBeginInitialises :
    (fresh cfg82 [⟨true, false⟩] []).busy = false ∧ (fresh cfg82 [⟨true, false⟩] []).init = false ∧
    (fresh cfg82 [⟨true, false⟩] []).acqAnswer.acqOk = true := by decide

theorem witness_RepeatedBeginKeepsPolarity :
    (ready cfg82 fb82 []).busy = false ∧ (ready cfg82 fb82 []).init = true ∧
    (State.acqAnswer { ready cfg82 fb82 [] with env := [⟨true, true⟩] }).acqOk = true := by decide

theorem witness_FailedBeginSendsNothing :
    (fresh cfg82 [⟨false, true⟩] []).busy = false ∧ (fresh cfg82 [⟨false, true⟩] []).acqAnswer = ⟨false, true⟩ ∧
    (fresh cfg82 [⟨false, false⟩] []).acqAnswer = ⟨false, false⟩ := by decide

theorem witness_ClearTransmissionEffect :
    ((fresh cfg82 [] []).busy = false ∧ (fresh cfg82 [] []).init = false) ∧
    (ready cfg82 fb82 []).init = true ∧ (ready cfg82 fb82 []).busy = false := by decide

theorem witness_FullFrameTransmissionEffect :
    ((fresh cfg82 [] []).busy = false ∧ (fresh cfg82 [] []).init = false) ∧
    (ready cfg82 fb82 []).init = true ∧ (ready cfg82 fb82 []).busy = false := by decide

theorem witness_ToggleTransmissionEffect :
    ((fresh cfg82 [] []).busy = false ∧ (fresh cfg82 [] []).init = false) ∧
    (ready cfg82 fb82 []).init = true ∧ (ready cfg82 fb82 []).busy = false := by decide

theorem witness_FrameLengths : cfg160.width = 160 ∧ cfg160.height = 68 := by decide

theorem witness_WriteFrameLayout : 1 < cfg82.height ∧ 0 < rowBytesOf cfg82 ∧ cfg82.perRowTrailer = true := by decide

theorem witness_FrameIsASnapshot :
    (ready cfg123 fb123 []).init = true ∧ (ready cfg123 fb123 []).busy = false ∧ 2 < cfg123.height := by decide

theorem witness_OnePixelReachesTheWire :
    (ready cfg123 fb123 []).init = true ∧ (ready cfg123 fb123 []).busy = false ∧ (ready cfg123 fb123 []).fb.wf = true ∧
    pixelInRange cfg123 11#16 2#16 = true ∧ 2 < cfg123.height ∧ 1 < rowBytesOf cfg123 := by decide

/-- The last bit, and an instance of each CPHA. -/
theorem witness_BitsGoOutLeastSignificantFirst : 7 < 8 ∧ (ready cfg82 [] []).cfg.cpha = false ∧ (ready cfg123 [] []).cfg.cpha = true := by
  decide

theorem witness_WireCommandsSendTheirByte (k : Kind) :
    (inside cfg82 fb82 k ⟨.cmd, 0, 0, 0⟩ []).cs = .high ∧ (inside cfg82 fb82 k ⟨.cmd, 0, 0, 0⟩ []).seq.phase = .cmd ∧
    (inside cfg82 fb82 k ⟨.cmd, 0, 0, 0⟩ []).seq.bit = 0 ∧ (inside cfg82 fb82 k ⟨.cmd, 0, 0, 0⟩ []).m1l = true ∧
    (inside cfg82 fb82 k ⟨.cmd, 0, 0, 0⟩ []).kind = k := by
  cases k <;> decide

theorem witness_WireCommandsOnlyInSequence : (ready cfg82 fb82 []).cs ≠ .high := by decide

theorem witness_TransmissionStart : (ready cfg82 fb82 []).init = true ∧ (ready cfg82 fb82 []).busy = false := by decide

/-- A state at every position: ADDR and ROWTRAIL of the last row, and DATA at the last byte of a row, among them. -/
theorem witness_SequencerRowTransitions (p : Seq) (hp : p.bit = 0) :
    (inside cfg82 fb82 .write p []).cs = .high ∧ (inside cfg82 fb82 .write p []).seq.bit = 0 ∧
    1 < cfg82.height ∧ 0 < rowBytesOf cfg82 ∧ cfg82.perRowTrailer = true := by
  exact ⟨rfl, hp, by decide, by decide, rfl⟩

theorem witness_SequencerEndTransitions :
    (inside cfg82 fb82 .clear ⟨.finalTrail, 0, 0, 0⟩ []).cs = .high ∧ (inside cfg82 fb82 .clear ⟨.finalTrail, 0, 0, 0⟩ []).seq.bit = 0 ∧
    (inside cfg82 fb82 .clear ⟨.hold, 0, 0, 0⟩ []).cs = .high ∧ (inside cfg82 fb82 .clear ⟨.hold, 0, 0, 0⟩ []).seq.phase = .hold := by
  decide

theorem witness_StepwiseTransmissionAgrees :
    (ready cfg82 fb82 []).init = true ∧ (ready cfg82 fb82 []).busy = false ∧ (ready cfg82 fb82 []).inBegin = false := by decide

theorem witness_StepwiseBeginAgrees :
    (fresh cfg82 [⟨true, false⟩] []).busy = false ∧ (fresh cfg82 [⟨true, false⟩] []).inBegin = false ∧
    (fresh cfg82 [⟨true, false⟩] []).acqAnswer.acqOk = true ∧ (fresh cfg82 [⟨false, true⟩] []).acqAnswer.acqOk = false := by decide

/-- From a state that meets the invariant, an idle one with an operation to issue and one inside a frame, a step answers a next state. -/
theorem witness_StepKeepsTheInvariant :
    Inv (ready cfg82 fb82 [0x9000000000#40]) ∧ (∃ t, step (ready cfg82 fb82 [0x9000000000#40]) = .next t) ∧
    Inv midFrame ∧ ∃ t, step midFrame = .next t :=
  ⟨inv_ready82 _, ⟨_, rfl⟩, inv_midFrame, ⟨_, rfl⟩⟩

theorem witness_NoFaultFromTheInvariant : Inv (ready cfg82 fb82 [0x5000000002#40]) ∧ Inv midFrame :=
  ⟨inv_ready82 _, inv_midFrame⟩

theorem witness_TraceGrowsAndInitStays : ∃ t, step (ready cfg82 fb82 [0x8000000000#40]) = .next t := ⟨_, rfl⟩

theorem witness_OnlyTransmissionsFlipPolarity :
    (∃ t, step (ready cfg82 fb82 [0xA000000000#40]) = .next t) ∧ (∃ t, step (ready cfg82 fb82 [0x2100000000#40]) = .next t) ∧
    (ready cfg82 fb82 []).init = true :=
  ⟨⟨_, rfl⟩, ⟨_, rfl⟩, rfl⟩

theorem witness_OnlyTheNamedWritersWrite :
    isHostOp (.getPixel 0#16 0#16) = true ∧ ∃ t, exec (.getPixel 0#16 0#16) (ready cfg82 fb82 []) = .next t ∧ t.res ≠ (ready cfg82 fb82 []).res :=
  ⟨rfl, _, rfl, by decide⟩

theorem witness_NoOperationReadsOldLatches :
    SameButLatches (ready cfg82 fb82 []) { ready cfg82 fb82 [] with opv := true, res := true, shift := 0x55#8, mosi := .high } := rfl

theorem witness_SerialModeIsInvisible :
    SameButSerialMode (ready cfg82 fb82 [0x9000000000#40])
      { ready cfg82 fb82 [0x9000000000#40] with cfg := { cfg82 with bitOrder := .nativeLsb, cpol := true, cpha := true }, sclk := .high } := rfl

theorem witness_UnwrittenContentsDoNotSurviveBegin :
    SameButUnwritten (fresh cfg82 [⟨true, false⟩] []) { fresh cfg82 [⟨true, false⟩] [] with fb := fb82, vcom := true } ∧
    (fresh cfg82 [⟨true, false⟩] []).init = false ∧ (fresh cfg82 [⟨true, false⟩] []).busy = false ∧
    (fresh cfg82 [⟨true, false⟩] []).acqAnswer.acqOk = true ∧ (∀ c ∈ (fresh cfg82 [⟨true, false⟩] []).fb, c.1 < fbBytesOf cfg82) ∧
    ∀ c ∈ fb82, c.1 < fbBytesOf cfg82 :=
  ⟨rfl, rfl, rfl, rfl, by decide, by decide⟩

theorem witness_OperationsEndIdle :
    Inv (ready cfg82 fb82 []) ∧ (ready cfg82 fb82 []).seq.phase = .idle ∧ isHostOp .txFrame = true ∧
    ∃ t, exec .txFrame (ready cfg82 fb82 []) = .next t :=
  ⟨inv_ready82 _, rfl, rfl, _, rfl⟩

theorem witness_EveryTransmissionEnds : Inv midFrame ∧ midFrame.seq.phase ≠ .idle := ⟨inv_midFrame, by decide⟩

theorem witness_PanelStoresWhatIsSent :
    Inv (ready cfg82 fb82 []) ∧ (ready cfg82 fb82 []).init = true ∧ (ready cfg82 fb82 []).seq.phase = .idle ∧
    (panelOf cfg82 (ready cfg82 fb82 []).wire).rows ≠ none :=
  ⟨inv_ready82 _, rfl, rfl, by decide⟩

theorem witness_RepeatedFrameIsIdempotent :
    Inv (ready cfg82 fb82 []) ∧ (ready cfg82 fb82 []).init = true ∧ (ready cfg82 fb82 []).seq.phase = .idle :=
  ⟨inv_ready82 _, rfl, rfl⟩

theorem witness_FrameDurationsAndHeartbeat : cfg82.fSclk = 2000000 ∧ cfg123.fSclk = 500000 ∧ heartbeatMet [0, 1000000001] = false := by
  decide

end Sys2Proof.Tests
end

section
/-! SUPPORT. The family of 20_memory.md: the payload bytes of F.WRITE by their place in the frame, the range test as bounds, and what
the pixel operations do out of range. -/

namespace Sys2Proof.Machine

theorem rowBytesOf_lt_rowStride (c : Config) : rowBytesOf c < rowStride c := by unfold rowStride; omega

/-- Byte `i` of the payload of row `y`, in the frame (30_encoding.md R101). -/
theorem getElem?_writeFrame_payload (c : Config) (m : Mem) (m1 : Bool) {y i : Nat} (hy : y < c.height) (hi : i < rowBytesOf c) :
    (writeFrame c m m1)[2 + y * rowStride c + i]? = some (m.read (y * rowBytesOf c + i)) := by
  have hplace : 2 + y * rowStride c + i = 1 + y * rowStride c + (i + 1) := by omega
  have hin : i + 1 < rowStride c := by have := rowBytesOf_lt_rowStride c; omega
  rw [hplace, getElem?_writeFrame c m m1 hy hin, rowGroup, List.getElem?_cons_succ, rowPayload,
    List.getElem?_append_left (by simpa using hi), Mem.getElem?_readRange m hi]

/-- The payload of row `y` is the run of ROW_BYTES bytes after the row's address byte. -/
theorem take_drop_writeFrame (c : Config) (m : Mem) (m1 : Bool) {y : Nat} (hy : y < c.height) :
    ((writeFrame c m m1).drop (2 + y * rowStride c)).take (rowBytesOf c) = rowPayload c m y := by
  apply List.ext_getElem?
  intro i
  rw [List.getElem?_take, List.getElem?_drop, rowPayload]
  split
  next hi => rw [getElem?_writeFrame_payload c m m1 hy hi, Mem.getElem?_readRange m hi]
  next hi => exact (List.getElem?_eq_none (by simpa using hi)).symm

/-- A coordinate is in range when its signed value lies between 0 and the bound (20_memory.md R58). -/
theorem coordInRange_iff {f : Coord} {n : Nat} : coordInRange f n = true ↔ 0 ≤ f.toInt ∧ f.toInt < n := by
  simp [coordInRange]

theorem pixelInRange_iff {c : Config} {x y : Coord} :
    pixelInRange c x y = true ↔ 0 ≤ x.toInt ∧ x.toInt < c.width ∧ 0 ≤ y.toInt ∧ y.toInt < c.height := by
  rw [pixelInRange, Bool.and_eq_true, coordInRange_iff, coordInRange_iff, and_assoc]

theorem setPixelFb_of_out {c : Config} {x y : Coord} (h : pixelInRange c x y = false) (m : Mem) (v : Bool) :
    setPixelFb c m x y v = m := by
  simp [setPixelFb, h]

theorem getPixelBit_of_out {c : Config} {x y : Coord} (h : pixelInRange c x y = false) (m : Mem) : getPixelBit c m x y = false := by
  simp [getPixelBit, h]

/-- Settles O33: the trace grows by the envelope of F.WRITE of the contents TXFRAME was issued with, and a row's payload stands in it
after the row's address byte. -/
theorem frameIsASnapshot : Obligations.FrameIsASnapshot := by
  intro s hi hb
  exact ⟨afterTransmission s .write, writeFrame s.cfg s.fb s.vcom, exec_txFrame_eq_next.2 ⟨hb, hi, rfl⟩, rfl, rfl,
    fun _ hy => take_drop_writeFrame s.cfg s.fb s.vcom hy⟩

/-- Settles O15: both operations complete, and out of range the one leaves FB and the other returns 0. -/
theorem outOfRangePixelsAreNoOps : Obligations.OutOfRangePixelsAreNoOps := by
  refine ⟨fun _ _ _ => pixelInRange_iff, fun s x y v hi hb hout => ⟨?_, ?_⟩⟩
  · exact ⟨_, exec_setPixel_eq_next.2 ⟨hb, hi, rfl⟩, setPixelFb_of_out hout s.fb v⟩
  · exact ⟨_, exec_getPixel_eq_next.2 ⟨hb, hi, rfl⟩, getPixelBit_of_out hout s.fb, rfl⟩

end Sys2Proof.Machine
end

section
/-! SUPPORT. The family of 30_encoding.md: which operation codes spell an operation, what the port does with a word at its head, and
the operands as fields of the word. -/

namespace Sys2Proof.Machine

/-- The decoder rejects an operation code exactly when it is none of the eight of the table (30_encoding.md R82). -/
theorem decodeOp_eq_error_iff {op : BitVec 4} {v : Bool} {x y : Coord} :
    decodeOp op v x y = .error .reservedOp ↔ op ∉ [0x1#4, 0x2#4, 0x3#4, 0x4#4, 0x5#4, 0x8#4, 0x9#4, 0xA#4] := by
  unfold decodeOp
  constructor
  · intro h hop
    fin_cases hop <;> cases h
  · intro hop
    simp only [List.mem_cons, List.not_mem_nil, or_false, not_or] at hop
    simp [hop]

/-- The codes of the table and the reserved ones of 30_encoding.md R96 are the sixteen. -/
theorem not_mem_opCodes_iff : ∀ op : BitVec 4,
    op ∉ [0x1#4, 0x2#4, 0x3#4, 0x4#4, 0x5#4, 0x8#4, 0x9#4, 0xA#4] ↔
      op ∈ [0x0#4, 0x6#4, 0x7#4, 0xB#4, 0xC#4, 0xD#4, 0xE#4, 0xF#4] := by decide

theorem decodeHost_of_rsv_zero {w : HostWord} (h : rsvField w = 0#3) :
    decodeHost w = decodeOp (opField w) (vField w) (xField w) (yField w) := if_pos h

theorem decodeHost_eq_error_iff {w : HostWord} :
    decodeHost w = .error .reservedOp ↔
      opField w ∈ [0x0#4, 0x6#4, 0x7#4, 0xB#4, 0xC#4, 0xD#4, 0xE#4, 0xF#4] ∨ rsvField w ≠ 0#3 := by
  by_cases h : rsvField w = 0#3
  · rw [decodeHost_of_rsv_zero h, decodeOp_eq_error_iff, not_mem_opCodes_iff, or_iff_left (not_not_intro h)]
  · exact ⟨fun _ => .inr h, fun _ => if_neg h⟩

section
variable {s : State} {w : HostWord} {rest : List HostWord} (hw : s.host = w :: rest) (hp : s.seq.phase = .idle)
  (hb : s.busy = false)
include hw hp hb

/-- An idle port, not busy, refuses a word that does not decode (60_exceptions.md R209). -/
theorem step_of_decodeHost_error {e : Reject} (hd : decodeHost w = .error e) : step s = .refused .reservedOp := by
  simp [step, fetch, fetchHost, runFetched, hp, hw, hb, hd]

/-- It issues the operation of a word that decodes. -/
theorem step_of_decodeHost_ok {i : Instr} (hd : decodeHost w = .ok i) :
    step s = if s.stepwise then startOp i { s with host := rest } else exec i { s with host := rest } := by
  simp [step, fetch, fetchHost, runFetched, hp, hw, hb, hd]

/-- An operation whose stepwise form is the whole one runs whole, whatever form the state asks for. -/
theorem step_eq_exec {i : Instr} (hd : decodeHost w = .ok i) (hi : startOp i = exec i) :
    step s = exec i { s with host := rest } := by
  rw [step_of_decodeHost_ok hw hp hb hd, hi, ite_self]

end

/-- The field 0xFFFF is the value -1, below every range (30_encoding.md R92). -/
theorem coordInRange_ffff (n : Nat) : coordInRange 0xFFFF#16 n = false := rfl

/-- The two's complement reading of a coordinate field, `signed` of 30_encoding.md R92. -/
theorem coord_toInt_eq (f : Coord) : f.toInt = if f.toNat < 0x8000 then (f.toNat : Int) else (f.toNat : Int) - 0x10000 := by
  have h := BitVec.toInt_eq_toNat_cond f
  split at h <;> split <;> omega

/-- Settles O4: the decoder rejects the reserved words and no others, and a rejected word is refused at an idle port. -/
theorem reservedHostWordsAreRefused : Obligations.ReservedHostWordsAreRefused := by
  intro w
  exact ⟨decodeHost_eq_error_iff, fun _ _ hw hp hb hr => step_of_decodeHost_error hw hp hb (decodeHost_eq_error_iff.2 hr)⟩

/-- Settles O5: a word with reserved bits 0 decodes by its operation code to an operation on its fields, which runs whole and loads
the latches it names. -/
theorem operandsAreFieldsOfTheWord : Obligations.OperandsAreFieldsOfTheWord := by
  refine ⟨coord_toInt_eq, fun c f => ⟨by simp [pixelInRange, coordInRange_ffff], by simp [pixelInRange, coordInRange_ffff]⟩, ?_⟩
  intro s w rest hw hp hi hb hr
  have hd := decodeHost_of_rsv_zero hr
  refine ⟨fun ho => ?setPixel, fun ho => ?getPixel, fun ho => ?fill, fun ho hy => ?rowBytes⟩ <;> rw [ho] at hd
  case setPixel =>
    exact ⟨_, (step_eq_exec hw hp hb hd rfl).trans (exec_setPixel_eq_next.2 ⟨hb, hi, rfl⟩), rfl, rfl, rfl⟩
  case getPixel =>
    exact ⟨_, (step_eq_exec hw hp hb hd rfl).trans (exec_getPixel_eq_next.2 ⟨hb, hi, rfl⟩), rfl, rfl⟩
  case fill =>
    exact ⟨_, (step_eq_exec hw hp hb hd rfl).trans (exec_fill_eq_next.2 ⟨hb, hi, rfl⟩), rfl⟩
  case rowBytes =>
    exact ⟨_, (step_eq_exec hw hp hb hd rfl).trans (exec_rowBytes_eq_next.2 ⟨hb, hi, hy, rfl⟩), rfl⟩

end Sys2Proof.Machine
end

section
/-! SUPPORT. The family of 40_framebuffer_ops.md: different pixels have different places in FB, what SETPIXEL and FILL leave at each
bit and at each pixel, and that writes of different pixels commute. -/

namespace Sys2Proof.Machine

/-! The port -/

theorem portCheck_of_init_false {s : State} (hb : s.busy = false) (hi : s.init = false) :
    portCheck true s = some .notInitialised := by
  simp [portCheck, hb, hi]

/-- Every host operation but BEGIN is refused while INIT = 0 (60_exceptions.md R203, REF1). -/
theorem exec_of_init_false (i : Instr) (hh : isHostOp i = true) (hne : i ≠ .beginOp) {s : State} (hb : s.busy = false)
    (hi : s.init = false) : exec i s = .refused .notInitialised := by
  have hp := portCheck_of_init_false hb hi
  cases i with
  | beginOp => exact absurd rfl hne
  | setPixel | getPixel | fill | clear =>
    simp only [exec, execSetPixel, execGetPixel, execFill, execClear, runOp, hp]
  | rowBytes => simp only [exec, execRowBytes, hp]
  | txClear | txFrame | txToggle => simp only [exec, execTxClear, execTxFrame, execTxToggle, runOp, hp]
  | wWrite | wClear | wToggle => cases hh

/-! The place of a pixel (20_memory.md R52, R53, R64) -/

theorem bitpos_lt (p : PackOrder) (x : Nat) : bitpos p x < 8 := by
  cases p <;> simp only [bitpos] <;> omega

theorem operandBit_lt (c : Config) (x : Coord) : operandBit c x < 8 := bitpos_lt _ _

theorem bitpos_inj {p : PackOrder} {x x' : Nat} (hx : x / 8 = x' / 8) (h : bitpos p x = bitpos p x') : x = x' := by
  cases p <;> simp only [bitpos] at h <;> omega

/-- The row of a byte address is its quotient by ROW_BYTES. -/
theorem pixelAddr_div {c : Config} {x : Nat} (hx : x < c.width) (y : Nat) : pixelAddr c x y / rowBytesOf c = y := by
  have hlt : x / 8 < rowBytesOf c := by unfold rowBytesOf; omega
  rw [pixelAddr, Nat.add_comm, Nat.add_mul_div_right _ _ (Nat.zero_lt_of_lt hlt), Nat.div_eq_of_lt hlt, Nat.zero_add]

theorem pixelAddr_inj {c : Config} {x y x' y' : Nat} (hx : x < c.width) (hx' : x' < c.width)
    (h : pixelAddr c x y = pixelAddr c x' y') : y = y' ∧ x / 8 = x' / 8 := by
  have hy : y = y' := by rw [← pixelAddr_div hx y, h, pixelAddr_div hx' y']
  subst hy
  exact ⟨rfl, Nat.add_left_cancel h⟩

theorem coordNat_inj {f g : Coord} {m n : Nat} (hf : coordInRange f m = true) (hg : coordInRange g n = true)
    (h : coordNat f = coordNat g) : f = g := by
  have hf := (coordInRange_iff.1 hf).1
  have hg := (coordInRange_iff.1 hg).1
  apply BitVec.eq_of_toInt_eq
  unfold coordNat at h
  omega

/-- Different pixels in range are at different bits of FB. -/
theorem operand_place_inj {c : Config} {x y x' y' : Coord} (h : pixelInRange c x y = true) (h' : pixelInRange c x' y' = true)
    (ha : operandAddr c x y = operandAddr c x' y') (hk : operandBit c x = operandBit c x') : (x, y) = (x', y') := by
  obtain ⟨hx, hy⟩ := Bool.and_eq_true_iff.1 h
  obtain ⟨hx', hy'⟩ := Bool.and_eq_true_iff.1 h'
  obtain ⟨hrow, hbyte⟩ := pixelAddr_inj (coordNat_lt hx) (coordNat_lt hx') ha
  rw [coordNat_inj hx hx' (bitpos_inj hbyte hk), coordNat_inj hy hy' hrow]

/-! FB after SETPIXEL and after FILL -/

theorem getLsbD_insertBit (old : Byte) (k : Nat) (v : Bool) {j : Nat} (hj : j < 8) :
    (insertBit old k v).getLsbD j = if j = k then v else old.getLsbD j := by
  simp only [insertBit, BitVec.getLsbD_or, BitVec.getLsbD_and, BitVec.getLsbD_not, BitVec.getLsbD_shiftLeft, BitVec.getLsbD_setWidth]
  by_cases hjk : j = k
  · subst hjk
    simp [hj]
  · rw [if_neg hjk]
    by_cases hlt : j < k
    · simp [hj, hlt]
    · have hne : j - k ≠ 0 := by omega
      simp [hj, hlt, hne]

/-- SETPIXEL of a pixel in range changes one bit of FB (40_framebuffer_ops.md R110). -/
theorem getLsbD_read_setPixelFb {c : Config} {m : Mem} {x y : Coord} (hw : m.wf = true) (h : pixelInRange c x y = true) (v : Bool)
    (a : Nat) {k : Nat} (hk : k < 8) :
    ((setPixelFb c m x y v).read a).getLsbD k =
      if a = operandAddr c x y ∧ k = operandBit c x then v else (m.read a).getLsbD k := by
  rw [setPixelFb, if_pos h, Mem.read_write hw]
  by_cases ha : a = operandAddr c x y
  · subst ha
    rw [if_pos rfl, getLsbD_insertBit _ _ _ hk]
    simp
  · rw [if_neg ha, if_neg fun hp => ha hp.1]

theorem read_fillFb (c : Config) (m : Mem) (v : Bool) (a : Nat) :
    (fillFb c m v).read a = if a < fbBytesOf c then fillByte v else m.read a := Mem.read_fill ..

theorem getLsbD_fillByte (v : Bool) {k : Nat} (hk : k < 8) : (fillByte v).getLsbD k = v := by
  cases v
  · simp [fillByte]
  · rw [fillByte, if_pos rfl]
    interval_cases k <;> rfl

/-- Two framebuffers in canonical form with the same bits are equal. -/
theorem Mem.ext_bits {m₁ m₂ : Mem} (h₁ : m₁.wf = true) (h₂ : m₂.wf = true)
    (h : ∀ a k, k < 8 → (m₁.read a).getLsbD k = (m₂.read a).getLsbD k) : m₁ = m₂ :=
  Mem.ext_of_wf h₁ h₂ fun a => BitVec.eq_of_getLsbD_eq (h a)

/-! The laws of R116, on FB -/

theorem getPixelBit_of_in {c : Config} {x y : Coord} (h : pixelInRange c x y = true) (m : Mem) :
    getPixelBit c m x y = (m.read (operandAddr c x y)).getLsbD (operandBit c x) := if_pos h

theorem getPixelBit_setPixelFb_same {c : Config} {m : Mem} {x y : Coord} (hw : m.wf = true) (h : pixelInRange c x y = true)
    (v : Bool) : getPixelBit c (setPixelFb c m x y v) x y = v := by
  rw [getPixelBit_of_in h, getLsbD_read_setPixelFb hw h v _ (operandBit_lt c _), if_pos ⟨rfl, rfl⟩]

theorem getPixelBit_setPixelFb_of_ne {c : Config} {m : Mem} {x y x' y' : Coord} (hw : m.wf = true)
    (h : pixelInRange c x y = true) (h' : pixelInRange c x' y' = true) (hne : (x, y) ≠ (x', y')) (v : Bool) :
    getPixelBit c (setPixelFb c m x y v) x' y' = getPixelBit c m x' y' := by
  rw [getPixelBit_of_in h', getPixelBit_of_in h', getLsbD_read_setPixelFb hw h v _ (operandBit_lt c _),
    if_neg fun hp => hne (operand_place_inj h' h hp.1 hp.2).symm]

theorem getPixelBit_fillFb {c : Config} {x y : Coord} (h : pixelInRange c x y = true) (m : Mem) (v : Bool) :
    getPixelBit c (fillFb c m v) x y = v := by
  rw [getPixelBit_of_in h, read_fillFb, if_pos (operandAddr_lt h), getLsbD_fillByte v (operandBit_lt c x)]

theorem setPixelFb_setPixelFb_same {c : Config} {m : Mem} {x y : Coord} (hw : m.wf = true) (h : pixelInRange c x y = true)
    (v v' : Bool) : setPixelFb c (setPixelFb c m x y v) x y v' = setPixelFb c m x y v' := by
  have hw' := setPixelFb_wf (c := c) hw x y v
  refine Mem.ext_bits (setPixelFb_wf hw' x y v') (setPixelFb_wf hw x y v') fun a k hk => ?_
  rw [getLsbD_read_setPixelFb hw' h _ a hk, getLsbD_read_setPixelFb hw h _ a hk, getLsbD_read_setPixelFb hw h _ a hk]
  split <;> rfl

/-- Writes of different pixels commute: no bit of FB belongs to both. -/
theorem setPixelFb_comm {c : Config} {m : Mem} {x y x' y' : Coord} (hw : m.wf = true) (h : pixelInRange c x y = true)
    (h' : pixelInRange c x' y' = true) (hne : (x, y) ≠ (x', y')) (v v' : Bool) :
    setPixelFb c (setPixelFb c m x y v) x' y' v' = setPixelFb c (setPixelFb c m x' y' v') x y v := by
  have hw₁ := setPixelFb_wf (c := c) hw x y v
  have hw₂ := setPixelFb_wf (c := c) hw x' y' v'
  refine Mem.ext_bits (setPixelFb_wf hw₁ x' y' v') (setPixelFb_wf hw₂ x y v) fun a k hk => ?_
  rw [getLsbD_read_setPixelFb hw₁ h' _ a hk, getLsbD_read_setPixelFb hw h _ a hk, getLsbD_read_setPixelFb hw₂ h _ a hk,
    getLsbD_read_setPixelFb hw h' _ a hk]
  by_cases hp : a = operandAddr c x y ∧ k = operandBit c x
  · obtain ⟨rfl, rfl⟩ := hp
    rw [if_neg fun hp' => hne (operand_place_inj h h' hp'.1 hp'.2), if_pos ⟨rfl, rfl⟩, if_pos ⟨rfl, rfl⟩]
  · rw [if_neg hp, if_neg hp]

/-! The five statements -/

/-- Settles O13: FB after SETPIXEL differs from FB before in the bit of the pixel, and nowhere for a pixel out of range. -/
theorem setPixelChangesExactlyItsBit : Obligations.SetPixelChangesExactlyItsBit := by
  intro s x y v
  refine ⟨congrArg Word.host (hostWord_eq_or ..), exec_of_init_false (.setPixel x y v) rfl nofun, fun hi hb => ?_⟩
  refine ⟨setPixelFb s.cfg s.fb x y v, exec_setPixel_eq_next.2 ⟨hb, hi, by rw [hb]⟩, fun hout => ?_, fun hx0 hx hy0 hy hw a k hk => ?_⟩
  · exact setPixelFb_of_out (by rwa [← Bool.not_eq_true, pixelInRange_iff]) s.fb v
  · exact getLsbD_read_setPixelFb hw (pixelInRange_iff.2 ⟨hx0, hx, hy0, hy⟩) v a hk

/-- Settles O16: every address below FB_BYTES reads as the fill byte, every other as before. -/
theorem fillWritesEveryByte : Obligations.FillWritesEveryByte := by
  intro s v
  refine ⟨?_, fun x y => decodeHost_hostWord _ v x y, exec_of_init_false (.fill v) rfl nofun, fun hi hb => ?_⟩
  · rw [encode, hostWord_eq_or]
    simp
  · exact ⟨fillFb s.cfg s.fb v, exec_fill_eq_next.2 ⟨hb, hi, by rw [hb]⟩, read_fillFb s.cfg s.fb v⟩

/-- Settles O19: each law is the one on FB, read through the operations, which complete. -/
theorem frameBufferLaws : Obligations.FrameBufferLaws := by
  intro s hi hb hw
  refine ⟨fun x y v h => ?readBack, fun x y v h => ?outOfRange, fun x y v h => ?filled, fun x y v x' y' h h' hne => ?others,
    fun x y v x' y' v' h h' => ?order⟩
  case readBack =>
    exact ⟨_, _, exec_setPixel_eq_next.2 ⟨hb, hi, rfl⟩, exec_getPixel_eq_next.2 ⟨rfl, hi, rfl⟩, getPixelBit_setPixelFb_same hw h v⟩
  case outOfRange => exact ⟨_, exec_setPixel_eq_next.2 ⟨hb, hi, rfl⟩, setPixelFb_of_out h s.fb v⟩
  case filled =>
    exact ⟨_, _, exec_fill_eq_next.2 ⟨hb, hi, rfl⟩, exec_getPixel_eq_next.2 ⟨rfl, hi, rfl⟩, getPixelBit_fillFb h s.fb v⟩
  case others =>
    exact ⟨_, _, _, exec_setPixel_eq_next.2 ⟨hb, hi, rfl⟩, exec_getPixel_eq_next.2 ⟨rfl, hi, rfl⟩,
      exec_getPixel_eq_next.2 ⟨hb, hi, rfl⟩, getPixelBit_setPixelFb_of_ne hw h h' hne v⟩
  case order =>
    refine ⟨_, _, _, _, exec_setPixel_eq_next.2 ⟨hb, hi, rfl⟩, exec_setPixel_eq_next.2 ⟨rfl, hi, rfl⟩,
      exec_setPixel_eq_next.2 ⟨hb, hi, rfl⟩, exec_setPixel_eq_next.2 ⟨rfl, hi, rfl⟩, fun hne => ?_, fun heq => ?_⟩
    · exact setPixelFb_comm hw h h' hne v v'
    · obtain ⟨rfl, rfl⟩ := Prod.mk.inj heq
      exact setPixelFb_setPixelFb_same hw h v v'

/-- Settles O14: GETPIXEL answers the bit of the signed range test. -/
theorem getPixelReturnsTheStoredBit : Obligations.GetPixelReturnsTheStoredBit := by
  intro s x y
  refine ⟨?_, fun v => decodeHost_hostWord _ v x y, exec_of_init_false (.getPixel x y) rfl nofun, fun hi hb => ?_⟩
  · rw [encode, hostWord_eq_or]
    simp
  · have hres : getPixelBit s.cfg s.fb x y = _ := if_congr pixelInRange_iff rfl rfl
    exact exec_getPixel_eq_next.2 ⟨hb, hi, by rw [hb, hres]; rfl⟩

/-- Settles O17: CLEAR runs as FILL 0, and TXCLEAR zeroes FB by the same fill. -/
theorem clearIsFillZero : Obligations.ClearIsFillZero := by
  refine ⟨by decide, rfl, fun _ => rfl, fun _ => exec_of_init_false .clear rfl nofun, fun s hi hb => ?_⟩
  refine ⟨fillFb s.cfg s.fb false, afterTransmission s .clear, exec_clear_eq_next.2 ⟨hb, hi, by rw [hb]⟩, fun a ha => ?_,
    exec_txClear_eq_next.2 ⟨hb, hi, rfl⟩, rfl⟩
  rw [read_fillFb, if_pos ha]
  rfl

end Sys2Proof.Machine
end

section
/-! SUPPORT. The family of 41_transport_ops.md: the command byte of each kind as a literal, the trace of a short frame and of F.WRITE
event by event, and the frame of a completed transmission. -/

namespace Sys2Proof.Machine

/-! The command byte of each kind (30_encoding.md R84) -/

theorem cmdByte_clear (m1 : Bool) : cmdByte .clear m1 = if m1 then 0x06#8 else 0x04#8 := by cases m1 <;> decide

theorem cmdByte_write (m1 : Bool) : cmdByte .write m1 = if m1 then 0x03#8 else 0x01#8 := by cases m1 <;> decide

theorem cmdByte_toggle (m1 : Bool) : cmdByte .toggle m1 = if m1 then 0x02#8 else 0x00#8 := by cases m1 <;> decide

/-! The envelopes, event by event -/

theorem envelope_clearFrame (m1 : Bool) :
    envelope (clearFrame m1) = [.csAssert, .byte (if m1 then 0x06#8 else 0x04#8), .byte 0x00#8, .csDeassert] := by
  rw [← cmdByte_clear]
  rfl

theorem envelope_toggleFrame (m1 : Bool) :
    envelope (toggleFrame m1) = [.csAssert, .byte (if m1 then 0x02#8 else 0x00#8), .byte 0x00#8, .csDeassert] := by
  rw [← cmdByte_toggle]
  rfl

/-- A row group on the wire: the address byte, the row's bytes as stored, the row trailer of an instance that has one
(30_encoding.md R87). -/
theorem map_byte_rowGroup (c : Config) (m : Mem) (y : Nat) :
    (rowGroup c m y).map Event.byte =
      .byte (BitVec.ofNat 8 (y + 1)) ::
        (((List.range (rowBytesOf c)).map fun i => .byte (m.read (y * rowBytesOf c + i))) ++
          (if c.perRowTrailer then [.byte 0x00#8] else [])) := by
  have htrailer : (rowTrailer c).map Event.byte = if c.perRowTrailer then [.byte 0x00#8] else [] :=
    apply_ite (List.map Event.byte) ..
  rw [rowGroup, List.map_cons, List.map_append, htrailer, rowPayload, Mem.readRange, List.map_map]
  rfl

theorem envelope_writeFrame (c : Config) (m : Mem) (m1 : Bool) :
    envelope (writeFrame c m m1) =
      [.csAssert, .byte (if m1 then 0x03#8 else 0x01#8)] ++
        ((List.range c.height).flatMap fun y => (rowGroup c m y).map Event.byte) ++ [.byte 0x00#8, .csDeassert] := by
  rw [← cmdByte_write, ← List.map_flatMap]
  simp [envelope, writeFrame, trailerByte]

/-! A completed transmission -/

/-- What a transmission writes: VCOM, NTX, CS, SEQ, SCLK, FB, WIRE, MOSI, SHIFT, KIND, M1L and the count of draws, and nothing else
(41_transport_ops.md R144 to R148). -/
theorem afterTransmission_changes_only {s : State} (hb : s.busy = false) (k : Kind) :
    afterTransmission s k =
      { s with
        vcom := !s.vcom, ntx := s.ntx + 1, cs := .low, seq := Seq.idlePos, sclk := levelOf s.cfg.cpol,
        fb := (afterTransmission s k).fb, wire := (afterTransmission s k).wire, draws := (afterTransmission s k).draws,
        mosi := (afterTransmission s k).mosi, shift := (afterTransmission s k).shift, kind := k, m1l := s.vcom } := by
  rw [hb]
  rfl

theorem afterTransmission_wire (s : State) (k : Kind) :
    (afterTransmission s k).wire = s.wire ++ envelope (frameOf s.cfg s.fb k s.vcom) := rfl

theorem afterTransmission_clear_fb (s : State) :
    (afterTransmission s .clear).fb = s.fb.fill (fbBytesOf s.cfg) 0x00#8 := rfl

/-- Settles O28: the wire grows by the envelope of F.CLEAR, and every byte of FB below FB_BYTES reads as zero. -/
theorem clearTransmissionEffect : Obligations.ClearTransmissionEffect := by
  refine ⟨by decide, fun _ => exec_of_init_false .txClear rfl nofun, fun s hi hb => ?_⟩
  refine ⟨afterTransmission s .clear, exec_txClear_eq_next.2 ⟨hb, hi, rfl⟩, ?wire, fun a => ?fb, afterTransmission_changes_only hb .clear⟩
  case wire => rw [afterTransmission_wire, frameOf, envelope_clearFrame]
  case fb => rw [afterTransmission_clear_fb, Mem.read_fill]

/-- Settles O29: the wire grows by the envelope of F.WRITE, row group by row group, and FB is kept. -/
theorem fullFrameTransmissionEffect : Obligations.FullFrameTransmissionEffect := by
  refine ⟨by decide, fun _ => exec_of_init_false .txFrame rfl nofun, fun s hi hb => ?_⟩
  refine ⟨afterTransmission s .write, exec_txFrame_eq_next.2 ⟨hb, hi, rfl⟩, ?wire, afterTransmission_changes_only hb .write⟩
  case wire =>
    rw [afterTransmission_wire, frameOf, envelope_writeFrame]
    simp only [map_byte_rowGroup, List.append_assoc]

/-- Settles O30: the wire grows by the envelope of F.TOGGLE, which no byte of FB enters, so that the same happens with other
contents. -/
theorem toggleTransmissionEffect : Obligations.ToggleTransmissionEffect := by
  refine ⟨by decide, fun _ => exec_of_init_false .txToggle rfl nofun, fun s hi hb => ?_⟩
  refine ⟨afterTransmission s .toggle, exec_txToggle_eq_next.2 ⟨hb, hi, rfl⟩, ?wire, afterTransmission_changes_only hb .toggle,
    fun _ => exec_txToggle_eq_next.2 ⟨hb, hi, rfl⟩⟩
  case wire => rw [afterTransmission_wire, frameOf, envelope_toggleFrame]

end Sys2Proof.Machine
end

section
/-! SUPPORT. The family of 42_framer_primitives.md: REV8 bit by bit, and what each transition of the sequencer inside a row answers. -/

namespace Sys2Proof.Machine

/-! REV8, bit by bit (42_framer_primitives.md R171) -/

theorem getLsbD_moveBit (b : Byte) (i j : Nat) {k : Nat} (hk : k < 8) :
    (moveBit b i j).getLsbD k = (decide (k = j) && b.getLsbD i) := by
  simp only [moveBit, BitVec.getLsbD_shiftLeft, BitVec.getLsbD_setWidth, BitVec.getLsbD_ofBool]
  by_cases hkj : k = j
  · subst hkj
    simp [hk]
  · rcases Nat.lt_or_gt_of_ne hkj with hlt | hgt
    · simp [hkj, hlt]
    · have hne : k - j ≠ 0 := by omega
      simp [hkj, hne]

theorem getLsbD_rev8 (b : Byte) {i : Nat} (hi : i < 8) : (rev8 b).getLsbD i = b.getLsbD (7 - i) := by
  simp only [rev8, BitVec.getLsbD_or, getLsbD_moveBit _ _ _ hi]
  interval_cases i <;> simp

theorem rev8_involutive : Function.Involutive rev8 := fun b =>
  BitVec.eq_of_getLsbD_eq fun i hi => by
    rw [getLsbD_rev8 _ hi, getLsbD_rev8 _ (by omega), Nat.sub_sub_self (by omega)]

/-- The byte whose low half is `n` and whose high half is `n` reversed. -/
def mirrored (n : BitVec 4) : Byte := n.setWidth 8 ||| rev8 (n.setWidth 8)

/-- A byte that REV8 leaves is given by its low half, so there are sixteen. -/
theorem eq_mirrored_of_rev8_eq {b : Byte} (h : rev8 b = b) : b = mirrored (b.setWidth 4) := by
  refine BitVec.eq_of_getLsbD_eq fun i hi => ?_
  have hsym : b.getLsbD (7 - i) = b.getLsbD i := by rw [← getLsbD_rev8 b hi, h]
  have hhalf : i < 4 ∨ 7 - i < 4 := by omega
  have hrev : 7 - i < 8 := by omega
  simp only [mirrored, BitVec.getLsbD_or, getLsbD_rev8 _ hi, BitVec.getLsbD_setWidth, hsym]
  cases b.getLsbD i
  · simp
  · simpa [hi, hrev] using hhalf

theorem rev8_eq_self_iff {b : Byte} :
    rev8 b = b ↔ b ∈ [0x00#8, 0x18#8, 0x24#8, 0x3C#8, 0x42#8, 0x5A#8, 0x66#8, 0x7E#8,
      0x81#8, 0x99#8, 0xA5#8, 0xBD#8, 0xC3#8, 0xDB#8, 0xE7#8, 0xFF#8] := by
  constructor
  · intro h
    rw [eq_mirrored_of_rev8_eq h]
    generalize b.setWidth 4 = n
    revert n
    decide
  · revert b
    decide

theorem wireBits_rev8 (b : Byte) : wireBits (rev8 b) = (wireBits b).reverse := by
  refine List.ext_getElem (by simp [wireBits]) fun i hi _ => ?_
  have hi : i < 8 := by simpa [wireBits] using hi
  simp [wireBits, getLsbD_rev8 b hi]

/-- Settles O35: by REV8's bits it is an involution and reverses the bits of a byte in wire order, so it keeps their count. -/
theorem reverseOfBits : Obligations.ReverseOfBits := by
  refine ⟨fun b _ hi => getLsbD_rev8 b hi, rev8_involutive, rev8_involutive.bijective, fun _ => rev8_eq_self_iff, fun b => ?count,
    by decide⟩
  case count => rw [wireBits_rev8, List.count_reverse]

/-! The transitions inside a row (42_framer_primitives.md R181 to R183) -/

section
variable {s : State} (hc : s.cs = .high) (hbit : s.seq.bit = 0)
include hc hbit

/-- In an envelope, between two bytes, a step makes the transition of a position in range. -/
theorem step_eq_sequencerMove (hidle : s.seq.phase ≠ .idle) (hcmd : s.seq.phase ≠ .cmd) (hr : seqInRange s.cfg s.seq = true) :
    step s = .next (sequencerMove s) :=
  (step_move hidle hcmd).trans (advance_eq_next.2 ⟨by simp [State.betweenBytes, hc, hbit], hr, rfl⟩)

theorem step_addr (hp : s.seq.phase = .addr) (hrow : s.seq.row < s.cfg.height) :
    step s = .next ((s.sendByte (addrByte s.seq.row)).moveSeq { phase := .data, row := s.seq.row, idx := 0, bit := 0 }) := by
  rw [step_eq_sequencerMove hc hbit (by simp [hp]) (by simp [hp]) (by simp [seqInRange, hp, hrow]), sequencerMove, hp]

theorem step_data (hp : s.seq.phase = .data) (hrow : s.seq.row < s.cfg.height) (hidx : s.seq.idx < rowBytesOf s.cfg) :
    step s =
      .next ((s.sendByte (s.fb.read (s.seq.row * rowBytesOf s.cfg + s.seq.idx))).moveSeq (nextData s.cfg s.seq)) := by
  rw [step_eq_sequencerMove hc hbit (by simp [hp]) (by simp [hp]) (by simp [seqInRange, hp, hrow, hidx]), sequencerMove, hp]

theorem step_rowTrail (hp : s.seq.phase = .rowTrail) (hrow : s.seq.row < s.cfg.height) (ht : s.cfg.perRowTrailer = true) :
    step s = .next ((s.sendByte trailerByte).moveSeq (nextRow s.cfg s.seq.row)) := by
  rw [step_eq_sequencerMove hc hbit (by simp [hp]) (by simp [hp]) (by simp [seqInRange, hp, hrow, ht]), sequencerMove, hp]

end

/-- Settles O41: in each phase the position is in range, so the step is the sequencer's move, whose next position is `nextData` or
`nextRow` written out. -/
theorem sequencerRowTransitions : Obligations.SequencerRowTransitions := by
  intro s hc hbit
  refine ⟨fun hp hrow => ?addr, fun hp hrow hidx => ?data, fun hp hrow ht => ?rowTrail⟩
  case addr => exact ⟨_, rfl, step_addr hc hbit hp hrow⟩
  case data => exact ⟨_, rfl, step_data hc hbit hp hrow hidx⟩
  case rowTrail => exact ⟨_, rfl, step_rowTrail hc hbit hp hrow ht⟩

end Sys2Proof.Machine
end

section
/-! SUPPORT. The two encodings of 30_encoding.md: what an operation code that decodes encodes to, that the six command bytes are all that
decode, and that an operand read back from its text is the operand. -/

namespace Sys2Proof.Machine

/-! The host port's words -/

/-- An operation read from fields is written with the same operation code, and its word decodes to it again (30_encoding.md R81). -/
theorem encode_of_decodeOp {op : BitVec 4} {v : Bool} {x y : Coord} {i : Instr} (h : decodeOp op v x y = .ok i) :
    i.wellFormed = true ∧ ∃ v' x' y', encode i = .host (hostWord op v' x' y') ∧ decodeOp op v' x' y' = .ok i := by
  have hop : op ∈ [0x1#4, 0x2#4, 0x3#4, 0x4#4, 0x5#4, 0x8#4, 0x9#4, 0xA#4] := by
    by_contra hn
    rw [decodeOp_eq_error_iff.2 hn] at h
    cases h
  fin_cases hop <;> cases h <;> exact ⟨rfl, _, _, _, rfl, rfl⟩

/-- Settles O1: a host word decodes by its fields, and each command byte is one of six. -/
theorem decodeOfEncodeIsTheInstruction : Obligations.DecodeOfEncodeIsTheInstruction := by
  intro i
  cases i with
  | clear => exact ⟨decodeHost_hostWord .., nofun⟩
  | beginOp | setPixel | getPixel | fill | rowBytes | txClear | txFrame | txToggle =>
    exact ⟨decodeHost_hostWord .., fun _ => rfl⟩
  | wWrite v | wClear v | wToggle v => cases v <;> exact ⟨by decide, fun _ => rfl⟩

/-! The command bytes of the wire -/

/-- Bit 0 says WRITE, bit 1 the polarity, bit 2 CLEAR; the others are 0 (30_encoding.md R83). -/
theorem cmdByte_bits (k : Kind) (m1 : Bool) :
    (cmdByte k m1).getLsbD 0 = decide (k = .write) ∧ (cmdByte k m1).getLsbD 1 = m1 ∧
      (cmdByte k m1).getLsbD 2 = decide (k = .clear) ∧ (cmdByte k m1).extractLsb' 3 5 = 0#5 := by
  cases k <;> cases m1 <;> decide

/-- A byte that is not one of the six command bytes is never emitted (30_encoding.md R95). -/
theorem mem_cmdBytes_or_neverEmitted : ∀ b : Byte,
    b ∈ [0x00#8, 0x02#8, 0x01#8, 0x03#8, 0x04#8, 0x06#8] ∨ decodeWire b = .error .neverEmitted := by decide

/-- A command byte that decodes is the byte of its kind and polarity. -/
theorem eq_cmdByte_of_mem {b : Byte} (h : b ∈ [0x00#8, 0x02#8, 0x01#8, 0x03#8, 0x04#8, 0x06#8]) : ∃ k m1, b = cmdByte k m1 := by
  fin_cases h
  · exact ⟨.toggle, false, by decide⟩
  · exact ⟨.toggle, true, by decide⟩
  · exact ⟨.write, false, by decide⟩
  · exact ⟨.write, true, by decide⟩
  · exact ⟨.clear, false, by decide⟩
  · exact ⟨.clear, true, by decide⟩

theorem decodeWire_eq_ok_iff {b : Byte} {i : Instr} :
    decodeWire b = .ok i ↔ ∃ k m1, b = cmdByte k m1 ∧ i = wireInstr k m1 := by
  constructor
  · intro h
    rcases mem_cmdBytes_or_neverEmitted b with hb | hb
    · obtain ⟨k, m1, rfl⟩ := eq_cmdByte_of_mem hb
      rw [decodeWire_cmdByte] at h
      exact ⟨k, m1, rfl, (Except.ok.inj h).symm⟩
    · rw [hb] at h
      cases h
  · rintro ⟨k, m1, rfl, rfl⟩
    exact decodeWire_cmdByte k m1

theorem encode_wireInstr (k : Kind) (m1 : Bool) : encode (wireInstr k m1) = .wire (cmdByte k m1) := by
  cases k <;> cases m1 <;> decide

/-- Settles O2: a host word's operation code and a command byte's kind and polarity are kept by decoding and encoding. -/
theorem decodedWordsEncodeBack : Obligations.DecodedWordsEncodeBack := by
  intro u i h
  cases u with
  | host w =>
    have hr : rsvField w = 0#3 := by
      by_contra hr
      rw [decode, decodeHost_eq_error_iff.2 (.inr hr)] at h
      cases h
    obtain ⟨hwf, v, x, y, he, hd⟩ := encode_of_decodeOp ((decodeHost_of_rsv_zero hr).symm.trans h)
    refine ⟨hwf, nofun, fun w' hw => ?_⟩
    cases hw
    exact ⟨_, he, opField_hostWord .., by rw [hr, rsvField_hostWord], by rw [decodeHost_hostWord, hd]⟩
  | wire b =>
    obtain ⟨k, m1, rfl, rfl⟩ := decodeWire_eq_ok_iff.1 h
    exact ⟨by cases k <;> rfl, fun _ _ => encode_wireInstr k m1, nofun⟩

/-- Settles O3: the words are literals, which the decoder computes. -/
theorem specWordsDecode : Obligations.SpecWordsDecode := by
  refine ⟨?_, ?_, ?_, ?_, ?_, ?_, ?_, ?_, ?_, ?_, ?_, ?_, ?_, ?_, ?_⟩ <;> decide

/-- Settles O6: the bytes by kind and polarity, and no other byte decodes. -/
theorem wireCommandsAreSixBytes : Obligations.WireCommandsAreSixBytes := by
  refine ⟨cmdByte_bits, by decide, by decide, by decide, by decide, by decide, by decide,
    fun k m1 => ⟨decodeWire_cmdByte k m1, encode_wireInstr k m1⟩, fun b => ⟨?six, fun h => ?decodes⟩⟩
  case six =>
    rintro ⟨i, h⟩
    refine (mem_cmdBytes_or_neverEmitted b).resolve_right fun hb => ?_
    rw [hb] at h
    cases h
  case decodes =>
    obtain ⟨k, m1, rfl⟩ := eq_cmdByte_of_mem h
    exact ⟨_, decodeWire_cmdByte k m1⟩

/-! The assembler's lines (30_encoding.md R98) -/

@[simp] theorem asmCoord_toInt (f : Coord) : asmCoord (.num f.toInt) = some f := by
  have hlo := BitVec.le_toInt f
  have hhi := BitVec.toInt_lt (x := f)
  rw [asmCoord, if_pos ⟨by simpa using hlo, by omega⟩, BitVec.ofInt_toInt]

@[simp] theorem asmValue_bit (v : Bool) : asmValue (.num (if v then 1 else 0)) = some v := by cases v <;> rfl

/-- Settles O8: a line's mnemonic selects the operation, and its operands are read back one by one. -/
theorem assemblerRoundTrip : Obligations.AssemblerRoundTrip := by
  intro i
  cases i with
  | wWrite | wClear | wToggle => exact ⟨⟨nofun, nofun⟩, nofun⟩
  | beginOp | clear | txClear | txFrame | txToggle =>
    refine ⟨⟨fun _ => rfl, fun _ => rfl⟩, fun m ops h => ?_⟩
    cases h
    rfl
  | setPixel | getPixel | fill | rowBytes =>
    refine ⟨⟨fun _ => rfl, fun _ => rfl⟩, fun m ops h => ?_⟩
    cases h
    simp [assemble]

end Sys2Proof.Machine
end

section
/-! SUPPORT. Construction, reset and the timing bounds: 00_scope.md R7, 10_state.md R42, 70_reset_and_hazards.md R238 and R246. -/

namespace Sys2Proof.Machine

theorem rawConfig_wellFormed_iff {r : RawConfig} :
    r.wellFormed = true ↔ 1 ≤ r.width ∧ r.width ≤ 32767 ∧ 1 ≤ r.height ∧ r.height ≤ 255 ∧ 0 < r.fSclk ∧ r.fSclk ≤ 2000000 ∧
      0 < r.tCsSetup ∧ 0 < r.tCsHold := by
  simp only [RawConfig.wellFormed, Bool.and_eq_true, decide_eq_true_eq, and_assoc]

theorem height_le_255 (c : Config) : c.height ≤ 255 := c.heightLessOne.isLt

theorem height_pos (c : Config) : 0 < c.height := Nat.succ_pos _

/-- The address byte of a row below HEIGHT holds y + 1 exactly (30_encoding.md R88). -/
theorem addrByte_toNat {c : Config} {y : Nat} (hy : y < c.height) : (addrByte y).toNat = y + 1 := by
  have hh := height_le_255 c
  rw [addrByte, BitVec.toNat_ofNat]
  omega

/-- Settles O9: within the bounds the bounded fields hold the parameters exactly, and outside them nothing is constructed. -/
theorem onlyWellFormedParametersMakeAnInstance : Obligations.OnlyWellFormedParametersMakeAnInstance := by
  refine ⟨fun r => ⟨?bounds, fun h => ?refused, fun h => ?built⟩, fun c => ?addresses⟩
  case bounds =>
    rw [rawConfig_wellFormed_iff]
    omega
  case refused => simp [construct, configOf, h]
  case built =>
    obtain ⟨hw, hw', hh, hh', hf, hf', hs, ho⟩ := rawConfig_wellFormed_iff.1 h
    refine ⟨_, by rw [construct, configOf, if_pos h], ?_, ?_, rfl, rfl, rfl, ?_, rfl, rfl, ?_, ?_⟩ <;>
      simp only [Config.width, Config.height, Config.fSclk, Config.tCsSetup, Config.tCsHold, Fin.val_ofNat] <;> omega
  case addresses =>
    have hpos := height_pos c
    have hlast : c.height - 1 < c.height := by omega
    exact ⟨Nat.succ_pos _, c.widthLessOne.isLt, hpos, height_le_255 c, by rw [addrByte_toNat hlast]; omega⟩

/-- Settles O10: the reset state is a literal. -/
theorem resetLeavesTheStatedValues : Obligations.ResetLeavesTheStatedValues :=
  fun _ => ⟨rfl, rfl, rfl, rfl, rfl, rfl, rfl, rfl⟩

/-- Settles O58: the quotients are literals, and the duty between two transmissions is the one comparison. -/
theorem frameDurationsAndHeartbeat : Obligations.FrameDurationsAndHeartbeat := by
  refine ⟨fun c h => ?fast, fun c h => ?slow, fun _ _ => rfl, fun a b _ => ?duty⟩
  case fast => simp only [shiftTime, h]; decide
  case slow => simp only [shiftTime, h]; decide
  case duty => simp [heartbeatMet, Config.tVcomMax]

end Sys2Proof.Machine
end

section
/-! SUPPORT. Pixels, padding bits and rows: which bits of FB are a pixel's, and what the FrameBuffer operations repeated leave
(20_memory.md R52 to R56, R62; 40_framebuffer_ops.md R114). -/

namespace Sys2Proof.Machine

/-- Settles O11: the position is the column's remainder by 8, counted from either end. -/
theorem columnsHaveTheirBitPosition : Obligations.ColumnsHaveTheirBitPosition := by
  refine ⟨fun _ => ⟨rfl, rfl⟩, bitpos_lt, fun k => ?_⟩
  simp only [bitpos]
  omega

/-- Settles O12: the row and the byte of a pixel are the quotients of its address, its place in the byte is its bit. -/
theorem pixelMapIsBoundedAndInjective : Obligations.PixelMapIsBoundedAndInjective := by
  intro c
  refine ⟨?lt, ?le, fun _ _ => pixelAddr_lt, fun p x y x' y' hx _ hx' _ ha hb => ?inj⟩
  case lt => unfold rowBytesOf; omega
  case le => unfold rowBytesOf; omega
  case inj =>
    obtain ⟨hrow, hbyte⟩ := pixelAddr_inj hx hx' ha
    exact ⟨bitpos_inj hbyte hb, hrow⟩

/-- Settles O20: SETPIXEL changes only a bit that is a pixel's, FILL every bit below FB_BYTES. -/
theorem paddingBitsAreRealStorage : Obligations.PaddingBitsAreRealStorage := by
  intro s a k hi hb hw ha hk hpad
  refine ⟨fun x y v => ⟨_, exec_setPixel_eq_next.2 ⟨hb, hi, rfl⟩, ?_⟩, fun v => ⟨_, exec_fill_eq_next.2 ⟨hb, hi, rfl⟩, ?_⟩⟩
  · cases hin : pixelInRange s.cfg x y
    · rw [setPixelFb_of_out hin]
    · obtain ⟨hx, hy⟩ := Bool.and_eq_true_iff.1 hin
      rw [getLsbD_read_setPixelFb hw hin v a hk,
        if_neg fun hp => hpad _ _ (coordNat_lt hx) (coordNat_lt hy) ⟨hp.1.symm, hp.2.symm⟩]
  · rw [read_fillFb, if_pos ha, getLsbD_fillByte v hk]

/-- Settles O21: the byte of the row that holds the pixel is the byte GETPIXEL reads. -/
theorem pixelsAndRowBytesAgree : Obligations.PixelsAndRowBytesAgree := by
  intro s x y hi hb hin
  obtain ⟨hx, hy⟩ := Bool.and_eq_true_iff.1 hin
  have hbyte : coordNat x / 8 < rowBytesOf s.cfg := by
    have := coordNat_lt hx
    unfold rowBytesOf
    omega
  exact ⟨_, _, s.fb.read (operandAddr s.cfg x y), exec_getPixel_eq_next.2 ⟨hb, hi, rfl⟩,
    exec_rowBytes_eq_next.2 ⟨hb, hi, hy, rfl⟩, Mem.length_readRange .., Mem.getElem?_readRange s.fb hbyte,
    (getPixelBit_of_in hin s.fb).symm⟩

theorem setPixelFb_idem {c : Config} {m : Mem} (hw : m.wf = true) (x y : Coord) (v : Bool) :
    setPixelFb c (setPixelFb c m x y v) x y v = setPixelFb c m x y v := by
  cases hin : pixelInRange c x y
  · rw [setPixelFb_of_out hin]
  · exact setPixelFb_setPixelFb_same hw hin v v

theorem fillFb_idem {c : Config} {m : Mem} (hw : m.wf = true) (v : Bool) : fillFb c (fillFb c m v) v = fillFb c m v := by
  have hw' : (fillFb c m v).wf = true := Mem.wf_fill hw _ _
  refine Mem.ext_of_wf (Mem.wf_fill hw' _ _) hw' fun a => ?_
  rw [read_fillFb, read_fillFb]
  split <;> rfl

/-- Settles O22: the latches take the same values again, and FB is written with what it holds. -/
theorem pixelWritesAreIdempotent : Obligations.PixelWritesAreIdempotent := by
  intro s hi hb hw
  refine ⟨fun x y v => ?setPixel, fun v => ?fill, fun x y => ?getPixel, fun y hy => ?rowBytes⟩
  case setPixel =>
    refine ⟨_, exec_setPixel_eq_next.2 ⟨hb, hi, rfl⟩, exec_setPixel_eq_next.2 ⟨rfl, hi, ?_⟩⟩
    simp only [setPixelFb_idem hw]
  case fill =>
    refine ⟨_, exec_fill_eq_next.2 ⟨hb, hi, rfl⟩, exec_fill_eq_next.2 ⟨rfl, hi, ?_⟩⟩
    simp only [fillFb_idem hw]
  case getPixel => exact ⟨_, exec_getPixel_eq_next.2 ⟨hb, hi, rfl⟩, exec_getPixel_eq_next.2 ⟨rfl, hi, rfl⟩, rfl⟩
  case rowBytes => exact ⟨_, exec_rowBytes_eq_next.2 ⟨hb, hi, hy, rfl⟩, exec_rowBytes_eq_next.2 ⟨rfl, hi, hy, rfl⟩, rfl⟩

/-- ROWBYTES of a row out of range is refused, once the port's checks have passed (60_exceptions.md R203, REF3). -/
theorem exec_rowBytes_of_out {s : State} {y : Coord} (hi : s.init = true) (hb : s.busy = false)
    (hy : coordInRange y s.cfg.height = false) : exec (.rowBytes y) s = .refused .rowOutOfRange := by
  simp [exec, execRowBytes, portCheck, hi, hb, hy]

/-- Settles O18: the signed range test decides between the row's bytes and the refusal. -/
theorem rowBytesReturnsTheRow : Obligations.RowBytesReturnsTheRow := by
  intro s y
  refine ⟨?word, exec_of_init_false (.rowBytes y) rfl nofun, fun hi hb => ⟨fun h0 hy => ?row, fun hout => ?refused⟩⟩
  case word =>
    rw [encode, hostWord_eq_or]
    simp
  case row => exact exec_rowBytes_eq_next.2 ⟨hb, hi, coordInRange_iff.2 ⟨h0, hy⟩, by rw [hb]; rfl⟩
  case refused =>
    refine exec_rowBytes_of_out hi hb (Bool.eq_false_iff.2 fun h => ?_)
    have := coordInRange_iff.1 h
    omega

end Sys2Proof.Machine
end

section
/-! SUPPORT. F.WRITE byte by byte: its length, the place of each byte (30_encoding.md R87 to R91, R101), and the frame of a picture of one
pixel. -/

namespace Sys2Proof.Machine

@[simp] theorem length_frameOf (c : Config) (m : Mem) (k : Kind) (m1 : Bool) : (frameOf c m k m1).length = frameLength c k := by
  cases k with
  | clear | toggle => rfl
  | write => simp [frameOf, writeFrame, frameLength]; omega

theorem getElem?_frameOf_zero (c : Config) (m : Mem) (k : Kind) (m1 : Bool) : (frameOf c m k m1)[0]? = some (cmdByte k m1) := by
  cases k <;> rfl

/-- The last byte of every frame is the final trailer (30_encoding.md R90). -/
theorem getElem?_frameOf_last (c : Config) (m : Mem) (k : Kind) (m1 : Bool) :
    (frameOf c m k m1)[frameLength c k - 1]? = some trailerByte := by
  obtain ⟨body, hb⟩ := frameOf_trailer c m k m1
  have hl := length_frameOf c m k m1
  rw [hb] at hl ⊢
  rw [← hl]
  simp

theorem getElem?_writeFrame_addr (c : Config) (m : Mem) (m1 : Bool) {y : Nat} (hy : y < c.height) :
    (writeFrame c m m1)[1 + y * rowStride c]? = some (addrByte y) :=
  getElem?_writeFrame c m m1 hy (rowStride_pos c)

/-- The row trailer follows the payload where PER_ROW_TRAILER = 1 (30_encoding.md R90). -/
theorem getElem?_writeFrame_rowTrailer {c : Config} (ht : c.perRowTrailer = true) (m : Mem) (m1 : Bool) {y : Nat} (hy : y < c.height) :
    (writeFrame c m m1)[2 + y * rowStride c + rowBytesOf c]? = some trailerByte := by
  have hplace : 2 + y * rowStride c + rowBytesOf c = 1 + y * rowStride c + (rowBytesOf c + 1) := by omega
  have hin : rowBytesOf c + 1 < rowStride c := by
    simp only [rowStride, ht, if_true]
    omega
  rw [hplace, getElem?_writeFrame c m m1 hy hin, rowGroup, List.getElem?_cons_succ, rowPayload,
    List.getElem?_append_right (by simp)]
  simp [rowTrailer, ht]

/-- Settles O31: bit 0 of the first byte says whether the frame has row groups, each of the stride's length. -/
theorem frameLengths : Obligations.FrameLengths := by
  refine ⟨fun c m k m1 => ?length, getElem?_frameOf_zero, fun c m m1 hw hh => ?panel⟩
  case length =>
    rw [length_frameOf]
    obtain ⟨hwrite, -⟩ := cmdByte_bits k m1
    rw [hwrite]
    cases k <;> rfl
  case panel =>
    refine (length_frameOf c m .write m1).trans ?_
    simp only [frameLength, rowStride, rowBytesOf, hw, hh]
    split <;> rfl

/-- Settles O32: the command byte, each row group by its places, and the final trailer. -/
theorem writeFrameLayout : Obligations.WriteFrameLayout := by
  intro c m m1
  have hlen : frameLength c .write = 2 + c.height * rowStride c := by rw [frameLength]; omega
  refine ⟨?command, fun y hy => ⟨?address, fun i hi => ?payload, fun ht => ?rowTrailer⟩, ?trailer, ?length⟩
  case command => exact (getElem?_frameOf_zero c m .write m1).trans (congrArg some (cmdByte_write m1))
  case address => exact ⟨_, getElem?_writeFrame_addr c m m1 hy, addrByte_toNat hy⟩
  case payload => exact getElem?_writeFrame_payload c m m1 hy hi
  case rowTrailer => exact getElem?_writeFrame_rowTrailer ht m m1 hy
  case trailer =>
    have hlast := getElem?_frameOf_last c m .write m1
    rwa [show frameLength c .write - 1 = 1 + c.height * rowStride c by omega] at hlast
  case length => exact (length_frameOf c m .write m1).trans hlen

/-- A payload bit of row `y'` is the pixel's place in FB exactly when row, byte and bit are the pixel's. -/
theorem payload_place_iff {c : Config} {x y : Coord} (hin : pixelInRange c x y = true) {y' i k : Nat} (hi : i < rowBytesOf c) :
    (y' * rowBytesOf c + i = operandAddr c x y ∧ k = operandBit c x) ↔
      (y' = coordNat y ∧ i = coordNat x / 8 ∧ k = operandBit c x) := by
  rw [← and_assoc, and_congr_left_iff]
  intro _
  constructor
  · intro h
    have hrow := congrArg (· / rowBytesOf c) h
    have hx := coordNat_lt (Bool.and_eq_true_iff.1 hin).1
    simp only [operandAddr, pixelAddr_div hx] at hrow
    rw [Nat.add_comm, Nat.add_mul_div_right _ _ (by omega), Nat.div_eq_of_lt hi, Nat.zero_add] at hrow
    subst hrow
    exact ⟨rfl, Nat.add_left_cancel h⟩
  · rintro ⟨rfl, rfl⟩
    rfl

/-- Settles O34: after FILL 0 every bit of FB is 0, SETPIXEL sets the pixel's, and TXFRAME sends the rows as stored. -/
theorem onePixelReachesTheWire : Obligations.OnePixelReachesTheWire := by
  intro s x y hi hb hw hin
  have hw' : (fillFb s.cfg s.fb false).wf = true := Mem.wf_fill hw _ _
  refine ⟨_, _, _, _, exec_fill_eq_next.2 ⟨hb, hi, rfl⟩, exec_setPixel_eq_next.2 ⟨rfl, hi, rfl⟩, exec_txFrame_eq_next.2 ⟨rfl, hi, rfl⟩,
    rfl, fun y' i k hy' hi' hk => ⟨_, getElem?_writeFrame_payload _ _ _ hy' hi', ?_⟩⟩
  have hbound : y' * rowBytesOf s.cfg + i < fbBytesOf s.cfg := by
    rw [fbBytesOf, Nat.mul_comm (rowBytesOf s.cfg)]
    exact row_place_lt hy' hi'
  rw [getLsbD_read_setPixelFb hw' hin true _ hk, read_fillFb, if_pos hbound, getLsbD_fillByte false hk]
  by_cases hp : y' = coordNat y ∧ i = coordNat x / 8 ∧ k = operandBit s.cfg x
  · rw [if_pos ((payload_place_iff hin hi').2 hp), decide_eq_true hp]
  · rw [if_neg fun h => hp ((payload_place_iff hin hi').1 h), decide_eq_false hp]

end Sys2Proof.Machine
end

section
/-! SUPPORT. The port's refusals and BEGIN (60_exceptions.md R203; 41_transport_ops.md R140 to R142). -/

namespace Sys2Proof.Machine

theorem portCheck_of_busy {s : State} (hb : s.busy = true) (needInit : Bool) : portCheck needInit s = some .busy := by
  simp [portCheck, hb]

/-- Every host operation is refused while BUSY = 1 (60_exceptions.md R203, REF4). -/
theorem exec_of_busy (i : Instr) {s : State} (hh : isHostOp i = true) (hb : s.busy = true) : exec i s = .refused .busy := by
  have hp := portCheck_of_busy hb
  cases i with
  | beginOp => simp only [exec, execBegin, runOp, hp]
  | setPixel | getPixel | fill | clear => simp only [exec, execSetPixel, execGetPixel, execFill, execClear, runOp, hp]
  | rowBytes => simp only [exec, execRowBytes, hp]
  | txClear | txFrame | txToggle => simp only [exec, execTxClear, execTxFrame, execTxToggle, runOp, hp]
  | wWrite | wClear | wToggle => cases hh

/-- Settles O23: INIT is checked before the operands. -/
theorem nothingRunsBeforeBegin : Obligations.NothingRunsBeforeBegin :=
  fun i _ hh hne hb hi => exec_of_init_false i hh hne hb hi

/-- A busy port refuses a word before it decodes it (60_exceptions.md R209). -/
theorem step_of_busy {s : State} {w : HostWord} {rest : List HostWord} (hw : s.host = w :: rest) (hp : s.seq.phase = .idle)
    (hb : s.busy = true) : step s = .refused .busy := by
  simp [step, fetch, fetchHost, runFetched, hp, hw, hb]

/-- Settles O24: BUSY is checked first, by the operation and by the port. -/
theorem busyPortRefuses : Obligations.BusyPortRefuses :=
  ⟨fun i _ hh hb => exec_of_busy i hh hb, fun _ _ _ hw hp hb => step_of_busy hw hp hb⟩

theorem exec_begin_of_ok {s : State} (hb : s.busy = false) (ha : s.acqAnswer.acqOk = true) : exec .beginOp s = .next (afterBegin s) :=
  exec_begin_eq_next.2 ⟨hb, by rw [if_pos ha]⟩

theorem exec_begin_of_fail {s : State} (hb : s.busy = false) (ha : s.acqAnswer.acqOk = false) :
    exec .beginOp s = .next (afterFailedBegin s) :=
  exec_begin_eq_next.2 ⟨hb, by simp [ha]⟩

theorem afterBegin_wire (s : State) :
    (afterBegin s).wire =
      s.wire ++ [.csConfig, .csAssert, .byte (if s.init && s.vcom then 0x06#8 else 0x04#8), .byte 0x00#8, .csDeassert] := by
  rw [afterBegin, envelope_clearFrame]

theorem read_afterBegin_fb (s : State) (a : Nat) :
    (afterBegin s).fb.read a = if a < fbBytesOf s.cfg then 0x00#8 else s.fb.read a := Mem.read_fill ..

/-- Settles O25: a first BEGIN starts from VCOM 0 and NTX 0, which its clear frame carries and flips. -/
theorem firstBeginInitialises : Obligations.FirstBeginInitialises := by
  intro s hb hi ha
  refine ⟨_, exec_begin_of_ok hb ha, ?_, read_afterBegin_fb s, ?_⟩
  · rw [afterBegin_wire, hi]
    rfl
  · simp only [afterBegin, hb, hi]
    rfl

/-- Settles O26: a repeated BEGIN keeps VCOM and NTX, and its clear frame flips and counts. -/
theorem repeatedBeginKeepsPolarity : Obligations.RepeatedBeginKeepsPolarity := by
  intro s hb hi ha
  refine ⟨_, exec_begin_of_ok hb ha, ?_, read_afterBegin_fb s, ?_⟩
  · rw [afterBegin_wire, hi, Bool.true_and]
  · simp only [afterBegin, hb, hi]
    rfl

/-- Settles O27: the failure is the only thing that happens. -/
theorem failedBeginSendsNothing : Obligations.FailedBeginSendsNothing := by
  intro s hb ha
  rw [exec_begin_of_fail hb ha, afterFailedBegin, hb]

end Sys2Proof.Machine
end

section
/-! SUPPORT. A byte bit by bit, and the transitions of the sequencer outside the rows (42_framer_primitives.md R173, R174, R178 to R180,
R184, R185). -/

namespace Sys2Proof.Machine

/-! The bits of a byte -/

/-- Under both strategies the peripheral's bit number `k` in time is bit `k` of the logical byte (42_framer_primitives.md R172, R174). -/
theorem shiftedBit_registerByte (o : BitOrder) (b : Byte) {k : Nat} (hk : k < 8) :
    shiftedBit o (registerByte o b) k = b.getLsbD k := by
  cases o with
  | nativeLsb => rfl
  | reverseSw =>
    rw [shiftedBit, registerByte, getLsbD_rev8 b (by omega), Nat.sub_sub_self (by omega)]

/-- After `k` bits of a byte: SHIFT and the parameters are kept, BIT counts, and with CPHA = 0 the next bit is on MOSI already. -/
theorem shiftBits_setUpByte (s : State) (b : Byte) {k : Nat} (hk : k < 8) :
    ((s.setUpByte b).shiftBits k).cfg = s.cfg ∧
    ((s.setUpByte b).shiftBits k).shift = registerByte s.cfg.bitOrder b ∧
    ((s.setUpByte b).shiftBits k).seq.bit.val = k ∧
    (s.cfg.cpha = false → ((s.setUpByte b).shiftBits k).mosi = levelOf (b.getLsbD k)) := by
  induction k with
  | zero =>
    refine ⟨rfl, rfl, rfl, fun h => ?_⟩
    rw [State.shiftBits, State.setUpByte_mosi, h, shiftedBit_registerByte _ _ hk]
    rfl
  | succ k ih =>
    obtain ⟨hcfg, hshift, hbit, -⟩ := ih (by omega)
    rw [State.shiftBits, State.shiftBit]
    generalize (s.setUpByte b).shiftBits k = t at hcfg hshift hbit
    have hnext : (t.seq.bit + 1).val = k + 1 := by rw [Fin.val_add, hbit]; exact Nat.mod_eq_of_lt hk
    have hne : t.seq.bit + 1 ≠ 0 := fun h => by rw [h] at hnext; cases hnext
    refine ⟨by rw [State.secondEdge_cfg, State.firstEdge_cfg, hcfg], by rw [State.secondEdge_shift, State.firstEdge_shift, hshift],
      by rw [State.secondEdge_seq, State.firstEdge_seq, hnext], fun h => ?_⟩
    rw [State.secondEdge_mosi, State.firstEdge_cfg, State.firstEdge_shift, State.firstEdge_seq, hnext, hcfg, hshift, h,
      shiftedBit_registerByte _ _ hk]
    simp [hne]

/-- Settles O36: the bit of SHIFT that BIT names is the logical byte's, put on MOSI before or on the first edge as CPHA says. -/
theorem bitsGoOutLeastSignificantFirst : Obligations.BitsGoOutLeastSignificantFirst := by
  intro s b k hk
  obtain ⟨hcfg, hshift, hbit, hmosi⟩ := shiftBits_setUpByte s b hk
  refine ⟨_, rfl, hbit, ?_⟩
  generalize (s.setUpByte b).shiftBits k = t at hcfg hshift hbit hmosi
  have hfirst : s.cfg.cpha = true → t.firstEdge.mosi = levelOf (b.getLsbD k) := fun h => by
    rw [State.firstEdge_mosi, hcfg, hshift, hbit, h, shiftedBit_registerByte _ _ hk]
    rfl
  have hkeep : s.cfg.cpha = false → t.firstEdge.mosi = t.mosi := fun h => by
    rw [State.firstEdge_mosi, hcfg, h]
    rfl
  have hsecond : s.cfg.cpha = true → t.firstEdge.secondEdge.mosi = t.firstEdge.mosi := fun h => by
    rw [State.secondEdge_mosi, State.firstEdge_cfg, hcfg, h]
    rfl
  refine ⟨by rw [State.firstEdge_sclk, hcfg], by rw [State.secondEdge_sclk, State.firstEdge_cfg, hcfg],
    fun h => ⟨hmosi h, hkeep h⟩, fun h => ⟨hfirst h, hsecond h⟩, ?_⟩
  cases h : s.cfg.cpha with
  | false => rw [State.sampledLevel, hcfg, h, if_neg Bool.false_ne_true, hkeep h, hmosi h]
  | true => rw [State.sampledLevel, hcfg, h, if_pos rfl, hsecond h, hfirst h]

/-- Settles O37: the closed form of SENDBYTE. -/
theorem sendByteEffect : Obligations.SendByteEffect := by
  intro s b
  refine ⟨levelOf (Config.freeMosi s.draws), ?_⟩
  rw [State.sendByte_eq]
  cases h : s.cfg.bitOrder <;> simp [registerByte]

/-! One byte sent, and the end of a transmission, in closed form -/

/-- The state after the byte `b` is sent and the sequencer has moved to `p`. -/
def afterByte (s : State) (b : Byte) (p : Seq) : State :=
  { s with
    shift := registerByte s.cfg.bitOrder b, seq := p, sclk := levelOf s.cfg.cpol, mosi := levelOf (Config.freeMosi s.draws),
    draws := s.draws + 1, wire := s.wire ++ [.byte b] }

theorem sendByte_moveSeq_eq (s : State) (b : Byte) (p : Seq) : (s.sendByte b).moveSeq p = afterByte s b p := by
  rw [State.sendByte_eq]
  rfl

/-- The state after HOLD (42_framer_primitives.md R184). -/
def afterHold (s : State) : State :=
  { s with
    cs := .low, wire := s.wire ++ [.csDeassert], vcom := !s.vcom, ntx := s.ntx + 1, seq := Seq.idlePos, busy := false,
    fb := if s.kind = .clear then s.fb.fill (fbBytesOf s.cfg) 0#8 else s.fb, ok := if s.inBegin then true else s.ok,
    inBegin := false }

theorem endTransmission_eq (s : State) : s.endTransmission = afterHold s := by
  rw [State.endTransmission, State.closeFrame_eq]
  cases h : s.inBegin <;> simp [afterHold, State.complete, State.initDone, h]

/-! The wire commands and the transitions outside the rows -/

theorem exec_wireInstr_eq_next {s : State} {k : Kind} {v : Bool} (h : s.atCommand k v = true) :
    exec (wireInstr k v) s = .next (afterByte s (cmdByte k v) (afterCommand k)) := by
  rw [exec_wireInstr, sendCommand, if_pos h, sendByte_moveSeq_eq]

theorem atCommand_iff {s : State} {k : Kind} {v : Bool} :
    s.atCommand k v = true ↔ s.cs = .high ∧ s.seq.phase = .cmd ∧ s.seq.bit = 0 ∧ s.kind = k ∧ s.m1l = v := by
  simp only [State.atCommand, State.betweenBytes, Bool.and_eq_true, decide_eq_true_eq]
  tauto

/-- Settles O38: in CMD of its transmission each command sends the byte of its kind and polarity. -/
theorem wireCommandsSendTheirByte : Obligations.WireCommandsSendTheirByte := by
  intro s v hcs hp hbit hm
  have hsend : ∀ k, s.kind = k → exec (wireInstr k v) s = .next (afterByte s (cmdByte k v) (afterCommand k)) :=
    fun k hk => exec_wireInstr_eq_next (atCommand_iff.2 ⟨hcs, hp, hbit, hk, hm⟩)
  refine ⟨fun hk => ⟨_, hsend .write hk, ?_⟩, fun hk => ⟨_, hsend .clear hk, ?_⟩, fun hk => ⟨_, hsend .toggle hk, ?_⟩⟩
  · rw [cmdByte_write]; rfl
  · rw [cmdByte_clear]; rfl
  · rw [cmdByte_toggle]; rfl

/-- Settles O39: the place is tested before anything is sent. -/
theorem wireCommandsOnlyInSequence : Obligations.WireCommandsOnlyInSequence := by
  intro s k v h
  rw [exec_wireInstr, sendCommand, if_neg (mt atCommand_iff.1 h)]

theorem startOp_txOp (k : Kind) (s : State) : startOp (txOp k) s = startTransmission k s := by cases k <;> rfl

/-- Settles O40: the port's checks pass, and the start opens the frame in SETUP. -/
theorem transmissionStart : Obligations.TransmissionStart := by
  intro s k hi hb
  rw [startOp_txOp]
  exact startTransmission_eq_next.2 ⟨hb, hi, rfl⟩

/-- Settles O42: each of these phases is in range anywhere, so the step is the sequencer's move. -/
theorem sequencerEndTransitions : Obligations.SequencerEndTransitions := by
  intro s hc hbit
  have hmove : ∀ p ∈ [Phase.setup, .finalTrail, .hold], s.seq.phase = p → step s = .next (sequencerMove s) := by
    intro p hp he
    fin_cases hp <;> exact step_eq_sequencerMove hc hbit (by simp [he]) (by simp [he]) (by simp [seqInRange, he])
  refine ⟨fun hp => ?setup, fun hp => ⟨_, rfl, ?finalTrail⟩, fun hp => ⟨(afterHold s).fb, fun a => ?zeroed, ?hold⟩⟩
  case setup => rw [hmove .setup (by simp) hp, sequencerMove, hp]; rfl
  case finalTrail => rw [hmove .finalTrail (by simp) hp, sequencerMove, hp]; rfl
  case hold => rw [hmove .hold (by simp) hp, sequencerMove, hp]; exact congrArg _ (endTransmission_eq s)
  case zeroed =>
    by_cases hk : s.kind = .clear
    · simp [afterHold, hk, Mem.read_fill]
    · simp [afterHold, hk]

end Sys2Proof.Machine
end

section
/-! SUPPORT. The frame and the sequencer's position: in each phase that sends a byte, the byte is the one of the frame at the position's
offset, and the next position is one byte on (42_framer_primitives.md R180 to R184; 30_encoding.md R101). -/

namespace Sys2Proof.Machine

/-- The phases that send a byte. -/
def Phase.sendsByte : Phase → Bool
  | .cmd | .addr | .data | .rowTrail | .finalTrail => true
  | .idle | .setup | .hold => false

/-- The byte that a phase sends. -/
def byteToSend (s : State) : Byte :=
  match s.seq.phase with
  | .cmd => cmdByte s.kind s.m1l
  | .addr => addrByte s.seq.row
  | .data => s.fb.read (s.seq.row * rowBytesOf s.cfg + s.seq.idx)
  | _ => trailerByte

/-- The position after that byte. -/
def nextPos (c : Config) (k : Kind) (p : Seq) : Seq :=
  match p.phase with
  | .cmd => afterCommand k
  | .addr => { phase := .data, row := p.row, idx := 0, bit := 0 }
  | .data => nextData c p
  | .rowTrail => nextRow c p.row
  | _ => { phase := .hold, row := 0, idx := 0, bit := 0 }

/-- A position a transmission of kind `k` reaches between two bytes (10_state.md R24; 42_framer_primitives.md R180). -/
structure PosInFrame (c : Config) (k : Kind) (p : Seq) : Prop where
  running : p.phase ≠ .idle
  bit : p.bit = 0
  inRange : seqInRange c p = true
  rowsOfWrite : p.phase = .addr ∨ p.phase = .data ∨ p.phase = .rowTrail → k = .write

theorem rowBytesOf_pos (c : Config) : 0 < rowBytesOf c := by
  unfold rowBytesOf Config.width
  omega

theorem two_le_frameLength (c : Config) (k : Kind) : 2 ≤ frameLength c k := by
  cases k <;> simp only [frameLength] <;> omega

/-- A position outside the rows. -/
theorem posInFrame_of_not_row (c : Config) (k : Kind) {ph : Phase} (h : ph ∈ [Phase.setup, .cmd, .finalTrail, .hold]) :
    PosInFrame c k { phase := ph, row := 0, idx := 0, bit := 0 } := by
  fin_cases h <;> exact ⟨nofun, rfl, rfl, by simp⟩

/-! The next position -/

/-- After a row group comes the next one, or the final trailer. -/
theorem seqOffset_nextRow {c : Config} {row : Nat} (h : row < c.height) :
    seqOffset c .write (nextRow c row) = addrOffset c row + rowStride c := by
  have hsucc : (row + 1) * rowStride c = row * rowStride c + rowStride c := Nat.succ_mul ..
  unfold nextRow
  split
  next => simp only [seqOffset, addrOffset]; omega
  next hlast =>
    have hrow : c.height = row + 1 := by omega
    simp only [seqOffset, frameLength, addrOffset, hrow]
    omega

theorem posInFrame_nextRow (c : Config) (row : Nat) : PosInFrame c .write (nextRow c row) := by
  unfold nextRow
  split
  next h => exact ⟨nofun, rfl, by simp [seqInRange, h], fun _ => rfl⟩
  next => exact posInFrame_of_not_row c .write (by simp)

theorem nextRow_ne_setup (c : Config) (row : Nat) : (nextRow c row).phase ≠ .setup := by
  unfold nextRow
  split <;> nofun

/-- The next position is one byte on in the frame. -/
theorem seqOffset_nextPos {c : Config} {k : Kind} {p : Seq} (h : PosInFrame c k p) (hp : p.phase.sendsByte = true) :
    seqOffset c k (nextPos c k p) = seqOffset c k p + 1 := by
  obtain ⟨-, -, hr, hk⟩ := h
  obtain ⟨ph, row, idx, bit⟩ := p
  cases ph with
  | idle | setup | hold => cases hp
  | cmd => cases k <;> simp [nextPos, afterCommand, seqOffset, frameLength, addrOffset]
  | addr => rfl
  | finalTrail =>
    have := two_le_frameLength c k
    simp only [nextPos, seqOffset]
    omega
  | rowTrail =>
    obtain ⟨hrow, ht⟩ := Bool.and_eq_true_iff.1 hr
    obtain rfl := hk (by simp)
    refine (seqOffset_nextRow (of_decide_eq_true hrow)).trans ?_
    simp only [seqOffset, rowStride, ht, if_true]
    omega
  | data =>
    simp only [seqInRange, Bool.and_eq_true, decide_eq_true_eq] at hr
    obtain ⟨hrow, hidx⟩ := hr
    obtain rfl := hk (by simp)
    simp only [nextPos, nextData]
    split
    next => simp only [seqOffset]; omega
    next hlast =>
      have hi : idx + 1 = rowBytesOf c := by omega
      split
      next => simp only [seqOffset]; omega
      next ht =>
        rw [seqOffset_nextRow hrow]
        simp only [seqOffset, rowStride, if_neg ht]
        omega

theorem posInFrame_nextPos {c : Config} {k : Kind} {p : Seq} (h : PosInFrame c k p) (hp : p.phase.sendsByte = true) :
    PosInFrame c k (nextPos c k p) ∧ (nextPos c k p).phase ≠ .setup := by
  obtain ⟨-, -, hr, hk⟩ := h
  obtain ⟨ph, row, idx, bit⟩ := p
  cases ph with
  | idle | setup | hold => cases hp
  | cmd =>
    have hh := height_pos c
    cases k with
    | write => exact ⟨⟨nofun, rfl, by simp [nextPos, afterCommand, seqInRange, hh], fun _ => rfl⟩, nofun⟩
    | clear | toggle => exact ⟨posInFrame_of_not_row c _ (ph := .finalTrail) (by simp), nofun⟩
  | addr =>
    have hb := rowBytesOf_pos c
    exact ⟨⟨nofun, rfl, by rw [nextPos, seqInRange, decide_eq_true hb, Bool.and_true]; exact hr, fun _ => hk (by simp)⟩, nofun⟩
  | finalTrail => exact ⟨posInFrame_of_not_row c k (ph := .hold) (by simp), nofun⟩
  | rowTrail =>
    obtain rfl := hk (by simp)
    exact ⟨posInFrame_nextRow c row, nextRow_ne_setup c row⟩
  | data =>
    obtain rfl := hk (by simp)
    have hrow : row < c.height := of_decide_eq_true (Bool.and_eq_true_iff.1 hr).1
    simp only [nextPos, nextData]
    split
    next hi => exact ⟨⟨nofun, rfl, by simp only [seqInRange, hrow, hi]; rfl, fun _ => rfl⟩, nofun⟩
    next =>
      split
      next ht => exact ⟨⟨nofun, rfl, by simp only [seqInRange, hrow, ht]; rfl, fun _ => rfl⟩, nofun⟩
      next => exact ⟨posInFrame_nextRow c row, nextRow_ne_setup c row⟩

/-! The byte at the position -/

/-- The byte sent is the frame's at the position's offset. -/
theorem getElem?_frameOf_seqOffset {s : State} (h : PosInFrame s.cfg s.kind s.seq) (hp : s.seq.phase.sendsByte = true) :
    (frameOf s.cfg s.fb s.kind s.m1l)[seqOffset s.cfg s.kind s.seq]? = some (byteToSend s) := by
  obtain ⟨-, -, hr, hk⟩ := h
  unfold seqInRange at hr
  unfold byteToSend seqOffset
  cases hph : s.seq.phase with
  | idle | setup | hold => rw [hph] at hp; cases hp
  | cmd => exact getElem?_frameOf_zero ..
  | finalTrail => exact getElem?_frameOf_last ..
  | addr =>
    simp only [hph, decide_eq_true_eq] at hr
    simp only [hk (by simp [hph])]
    exact getElem?_writeFrame_addr _ _ _ hr
  | data =>
    simp only [hph, Bool.and_eq_true, decide_eq_true_eq] at hr
    simp only [hk (by simp [hph]), addrOffset]
    rw [show 1 + s.seq.row * rowStride s.cfg + 1 + s.seq.idx = 2 + s.seq.row * rowStride s.cfg + s.seq.idx by omega]
    exact getElem?_writeFrame_payload _ _ _ hr.1 hr.2
  | rowTrail =>
    simp only [hph, Bool.and_eq_true, decide_eq_true_eq] at hr
    simp only [hk (by simp [hph]), addrOffset]
    rw [show 1 + s.seq.row * rowStride s.cfg + 1 + rowBytesOf s.cfg = 2 + s.seq.row * rowStride s.cfg + rowBytesOf s.cfg by omega]
    exact getElem?_writeFrame_rowTrailer hr.2 _ _ hr.1

theorem seqOffset_lt {s : State} (h : PosInFrame s.cfg s.kind s.seq) (hp : s.seq.phase.sendsByte = true) :
    seqOffset s.cfg s.kind s.seq < frameLength s.cfg s.kind := by
  have := (List.getElem?_eq_some_iff.1 (getElem?_frameOf_seqOffset h hp)).1
  rwa [length_frameOf] at this

/-! The step at the position -/

/-- A transition of the sequencer sends one byte and moves on, whatever state it starts from. -/
theorem sequencerMove_of_sendsByte {s : State} (hp : s.seq.phase.sendsByte = true) (hc : s.seq.phase ≠ .cmd) :
    sequencerMove s = afterByte s (byteToSend s) (nextPos s.cfg s.kind s.seq) := by
  unfold sequencerMove byteToSend nextPos
  cases hph : s.seq.phase with
  | idle | setup | hold => rw [hph] at hp; cases hp
  | cmd => exact absurd hph hc
  | addr | data | rowTrail | finalTrail => exact sendByte_moveSeq_eq ..

section
variable {s : State} (hc : s.cs = .high) (h : PosInFrame s.cfg s.kind s.seq)
include hc h

theorem step_of_sendsByte (hp : s.seq.phase.sendsByte = true) :
    step s = .next (afterByte s (byteToSend s) (nextPos s.cfg s.kind s.seq)) := by
  by_cases hcmd : s.seq.phase = .cmd
  · rw [step_cmd hcmd (by simp [State.betweenBytes, hc, h.bit]), sendByte_moveSeq_eq, byteToSend, nextPos, hcmd]
  · rw [step_eq_sequencerMove hc h.bit h.running hcmd h.inRange, sequencerMove_of_sendsByte hp hcmd]

theorem step_setup (hp : s.seq.phase = .setup) : step s = .next (s.moveSeq { phase := .cmd, row := 0, idx := 0, bit := 0 }) := by
  rw [step_eq_sequencerMove hc h.bit h.running (by simp [hp]) h.inRange, sequencerMove, hp]

theorem step_hold (hp : s.seq.phase = .hold) : step s = .next (afterHold s) := by
  rw [step_eq_sequencerMove hc h.bit h.running (by simp [hp]) h.inRange, sequencerMove, hp, ← endTransmission_eq]

end

/-- A phase inside a transmission waits, ends it, or sends a byte. -/
theorem phase_cases {p : Phase} (h : p ≠ .idle) : p = .setup ∨ p = .hold ∨ p.sendsByte = true := by
  cases p with
  | idle => exact absurd rfl h
  | setup => exact .inl rfl
  | hold => exact .inr (.inl rfl)
  | cmd | addr | data | rowTrail | finalTrail => exact .inr (.inr rfl)

end Sys2Proof.Machine
end

section
/-! SUPPORT. A transmission run one transition a step, from any position to its end (42_framer_primitives.md R186). -/

namespace Sys2Proof.Machine

theorem runSteps_succ {s t : State} (h : step s = .next t) (n : Nat) : runSteps (n + 1) s = runSteps n t := by
  rw [runSteps, h]

theorem sendBytes_cons (s : State) (b : Byte) (bs : List Byte) : s.sendBytes (b :: bs) = (s.sendByte b).sendBytes bs := by
  simp only [State.sendBytes, List.foldl_cons]

/-- Bytes sent change SHIFT, SEQ, SCLK, MOSI, the count of draws and WIRE, and nothing else. -/
theorem sendBytes_changes_only (s : State) (bs : List Byte) :
    s.sendBytes bs =
      { s with
        shift := (s.sendBytes bs).shift, seq := (s.sendBytes bs).seq, sclk := (s.sendBytes bs).sclk, mosi := (s.sendBytes bs).mosi,
        draws := (s.sendBytes bs).draws, wire := (s.sendBytes bs).wire } := by
  induction bs generalizing s with
  | nil => rfl
  | cons b bs ih =>
    have h := ih (s.sendByte b)
    rw [State.sendByte_eq] at h
    rw [sendBytes_cons, State.sendByte_eq]
    exact h

/-- The bytes do not depend on the position they are sent from. -/
theorem sendBytes_moveSeq (s : State) (p : Seq) (bs : List Byte) : ∃ q, (s.moveSeq p).sendBytes bs = (s.sendBytes bs).moveSeq q := by
  induction bs generalizing s p with
  | nil => exact ⟨p, rfl⟩
  | cons b bs ih =>
    have hone : (s.moveSeq p).sendByte b = (s.sendByte b).moveSeq { p with bit := 0 } := by
      rw [State.sendByte_eq, State.sendByte_eq]
      rfl
    rw [sendBytes_cons, sendBytes_cons, hone]
    exact ih (s.sendByte b) _

theorem afterHold_sendBytes_moveSeq (s : State) (p : Seq) (bs : List Byte) :
    afterHold ((s.moveSeq p).sendBytes bs) = afterHold (s.sendBytes bs) := by
  obtain ⟨q, hq⟩ := sendBytes_moveSeq s p bs
  rw [hq]
  rfl

theorem afterHold_sendBytes_afterByte (s : State) (b : Byte) (p : Seq) (bs : List Byte) :
    afterHold ((afterByte s b p).sendBytes bs) = afterHold (s.sendBytes (b :: bs)) := by
  rw [← sendByte_moveSeq_eq, sendBytes_cons]
  exact afterHold_sendBytes_moveSeq (s.sendByte b) p bs

/-- From a position with `r` bytes of the frame to send, `r + 1` steps send them and end the transmission. -/
theorem runSteps_rest {s : State} {r : Nat} (hc : s.cs = .high) (h : PosInFrame s.cfg s.kind s.seq) (hs : s.seq.phase ≠ .setup)
    (hr : seqOffset s.cfg s.kind s.seq + r = frameLength s.cfg s.kind) :
    runSteps (r + 1) s =
      .next (afterHold (s.sendBytes ((frameOf s.cfg s.fb s.kind s.m1l).drop (seqOffset s.cfg s.kind s.seq)))) := by
  induction r generalizing s with
  | zero =>
    have hhold : s.seq.phase = .hold := by
      rcases phase_cases h.running with hp | hp | hp
      · exact absurd hp hs
      · exact hp
      · have := seqOffset_lt h hp
        omega
    rw [runSteps_succ (step_hold hc h hhold), List.drop_of_length_le (by rw [length_frameOf]; omega)]
    rfl
  | succ r ih =>
    have hsend : s.seq.phase.sendsByte = true := by
      rcases phase_cases h.running with hp | hp | hp
      · exact absurd hp hs
      · simp only [seqOffset, hp] at hr
        omega
      · exact hp
    obtain ⟨hpos, hne⟩ := posInFrame_nextPos h hsend
    have hoff := seqOffset_nextPos h hsend
    obtain ⟨hlt, hbyte⟩ := List.getElem?_eq_some_iff.1 (getElem?_frameOf_seqOffset h hsend)
    rw [runSteps_succ (step_of_sendsByte hc h hsend), ih (s := afterByte s (byteToSend s) (nextPos s.cfg s.kind s.seq)) hc hpos hne
      (by show seqOffset s.cfg s.kind (nextPos s.cfg s.kind s.seq) + r = frameLength s.cfg s.kind; omega),
      afterHold_sendBytes_afterByte, List.drop_eq_getElem_cons hlt, hbyte]
    show _ = Host.Outcome.next (afterHold (s.sendBytes (byteToSend s :: (frameOf s.cfg s.fb s.kind s.m1l).drop _)))
    rw [← hoff]
    rfl

/-- From SETUP there is one step more, and the whole frame is sent. -/
theorem runSteps_setup {s : State} (hc : s.cs = .high) (h : PosInFrame s.cfg s.kind s.seq) (hp : s.seq.phase = .setup) :
    runSteps (frameLength s.cfg s.kind + 2) s = .next (afterHold (s.sendBytes (frameOf s.cfg s.fb s.kind s.m1l))) := by
  have hcmd := posInFrame_of_not_row s.cfg s.kind (ph := .cmd) (by simp)
  have hrest := runSteps_rest (s := s.moveSeq { phase := .cmd, row := 0, idx := 0, bit := 0 }) hc hcmd nofun (Nat.zero_add _)
  exact (runSteps_succ (step_setup hc h hp) _).trans (hrest.trans (congrArg _ (afterHold_sendBytes_moveSeq ..)))

theorem endTransmission_eq_complete (s : State) :
    s.endTransmission = (if s.closeFrame.inBegin then { s.closeFrame.initDone with inBegin := false } else s.closeFrame).complete := rfl

/-- A transmission run from its start ends in what follows its big-step form (42_framer_primitives.md R184). -/
theorem runSteps_startFrame (s : State) (k : Kind) :
    runSteps (frameLength s.cfg k + 2) (s.startFrame k) =
      .next (if s.inBegin then { (s.transmission k).initDone with inBegin := false } else s.transmission k).complete := by
  have hpos := posInFrame_of_not_row s.cfg k (ph := .setup) (by simp)
  have hrun : runSteps (frameLength s.cfg k + 2) (s.startFrame k) =
      .next (afterHold ((s.startFrame k).sendBytes (frameOf s.cfg s.fb k s.vcom))) :=
    runSteps_setup (s := s.startFrame k) rfl hpos rfl
  have hin : (s.transmission k).inBegin = s.inBegin := by rw [State.transmission_eq]
  rw [hrun, State.startFrame, afterHold_sendBytes_moveSeq, ← endTransmission_eq, endTransmission_eq_complete, ← State.transmission, hin]

theorem exec_txOp {s : State} (hi : s.init = true) (hb : s.busy = false) (k : Kind) :
    exec (txOp k) s = .next (afterTransmission s k) := by
  cases k with
  | clear => exact exec_txClear_eq_next.2 ⟨hb, hi, rfl⟩
  | write => exact exec_txFrame_eq_next.2 ⟨hb, hi, rfl⟩
  | toggle => exact exec_txToggle_eq_next.2 ⟨hb, hi, rfl⟩

/-- Settles O43: the steps from SETUP send the frame byte by byte and end the transmission. -/
theorem stepwiseTransmissionAgrees : Obligations.StepwiseTransmissionAgrees := by
  intro s k hi hb hin
  refine ⟨s.accept.startFrame k, (startOp_txOp k s).trans (startTransmission_eq_next.2 ⟨hb, hi, rfl⟩), ?_⟩
  have hrun := runSteps_startFrame s.accept k
  rwa [State.accept_inBegin, hin, if_neg Bool.false_ne_true, complete_transmission_accept, ← exec_txOp hi hb] at hrun

/-- The flag "inside BEGIN" passes through a transmission. -/
theorem transmission_inBegin (s : State) (b : Bool) (k : Kind) :
    { s with inBegin := b }.transmission k = { s.transmission k with inBegin := b } := by
  rw [State.transmission_eq, State.transmission_eq]

@[simp] theorem beginAcquire_cfg (s : State) : s.beginAcquire.cfg = s.cfg := by simp [State.beginAcquire]

@[simp] theorem beginAcquire_inBegin (s : State) : s.beginAcquire.inBegin = s.inBegin := by simp [State.beginAcquire]

/-- The clear of a BEGIN run one transition a step leaves what the BEGIN leaves. -/
theorem runSteps_beginStarted {s : State} (ha : s.acqAnswer.acqOk = true) (hin : s.inBegin = false) :
    runSteps (frameLength s.cfg .clear + 2) (beginStarted s) = .next (afterBegin s) := by
  have hrun := runSteps_startFrame { s.accept.takeAnswer.beginAcquire with inBegin := true } .clear
  have hdone := complete_beginEffect_accept s
  rw [if_pos ha, beginEffect, if_pos (show s.accept.acqAnswer.acqOk = true from ha)] at hdone
  have hflag : (s.accept.takeAnswer.beginAcquire.transmission .clear).inBegin = false := by
    simpa [State.transmission_eq] using hin
  rw [if_pos rfl, transmission_inBegin, beginAcquire_cfg] at hrun
  rw [← hdone]
  refine hrun.trans ?_
  simp only [State.initDone, hflag]

/-- Settles O44: a BEGIN that succeeds is the transmission of its clear, inside BEGIN; one that fails is whole in both forms. -/
theorem stepwiseBeginAgrees : Obligations.StepwiseBeginAgrees := by
  intro s hb hin
  refine ⟨fun ha => ⟨beginStarted s, startBegin_eq_next.2 ⟨hb, by rw [if_pos ha]⟩, ?_⟩, fun ha => ?_⟩
  · rw [exec_begin_of_ok hb ha, runSteps_beginStarted ha hin]
  · rw [exec_begin_of_fail hb ha]
    exact startBegin_eq_next.2 ⟨hb, by simp [ha]⟩

end Sys2Proof.Machine
end

section
/-! SUPPORT. All that a completed host operation and a step can have done to the state, and the whole-machine rules that follow from it
(10_state.md R22, R27, R31 to R33; 41_transport_ops.md R145). -/

namespace Sys2Proof.Machine

/-! What a host operation answers -/

/-- Why the block refuses a host operation for its operands: only ROWBYTES, of a row out of range (60_exceptions.md R203, REF3). -/
def rowRefusal (i : Instr) (c : Config) : Option Refusal :=
  match i with
  | .rowBytes y => if coordInRange y c.height then none else some .rowOutOfRange
  | _ => none

/-- Why it refuses one at all: the port's checks come first (60_exceptions.md R209). -/
def hostRefusal (i : Instr) (s : State) : Option Refusal := (portCheck (decide (i ≠ .beginOp)) s).or (rowRefusal i s.cfg)

/-- The state a host operation that is not refused completes in; a wire command is none. -/
def afterHostOp (i : Instr) (s : State) : State :=
  match i with
  | .beginOp => if s.acqAnswer.acqOk then afterBegin s else afterFailedBegin s
  | .setPixel x y v => { s with opx := x, opy := y, opv := v, fb := setPixelFb s.cfg s.fb x y v, busy := false }
  | .getPixel x y => { s with opx := x, opy := y, res := getPixelBit s.cfg s.fb x y, busy := false }
  | .fill v => { s with opv := v, fb := fillFb s.cfg s.fb v, busy := false }
  | .clear => { s with opv := false, fb := fillFb s.cfg s.fb false, busy := false }
  | .rowBytes y => { s with opy := y, rowRes := rowPayload s.cfg s.fb (coordNat y), busy := false }
  | .txClear => afterTransmission s .clear
  | .txFrame => afterTransmission s .write
  | .txToggle => afterTransmission s .toggle
  | .wWrite _ | .wClear _ | .wToggle _ => s

/-- A host operation that passes the checks completes, but for ROWBYTES of a row out of range. -/
theorem exec_of_ready {i : Instr} {s : State} (hh : isHostOp i = true) (hb : s.busy = false) (hi : i ≠ .beginOp → s.init = true)
    (hy : ∀ y, i = .rowBytes y → coordInRange y s.cfg.height = true) : exec i s = .next (afterHostOp i s) := by
  cases i with
  | beginOp => exact exec_begin_eq_next.2 ⟨hb, rfl⟩
  | setPixel => exact exec_setPixel_eq_next.2 ⟨hb, hi nofun, rfl⟩
  | getPixel => exact exec_getPixel_eq_next.2 ⟨hb, hi nofun, rfl⟩
  | fill => exact exec_fill_eq_next.2 ⟨hb, hi nofun, rfl⟩
  | clear => exact exec_clear_eq_next.2 ⟨hb, hi nofun, rfl⟩
  | rowBytes y => exact exec_rowBytes_eq_next.2 ⟨hb, hi nofun, hy y rfl, rfl⟩
  | txClear => exact exec_txClear_eq_next.2 ⟨hb, hi nofun, rfl⟩
  | txFrame => exact exec_txFrame_eq_next.2 ⟨hb, hi nofun, rfl⟩
  | txToggle => exact exec_txToggle_eq_next.2 ⟨hb, hi nofun, rfl⟩
  | wWrite | wClear | wToggle => cases hh

/-- All a host operation can answer. -/
theorem exec_hostOp {i : Instr} (hh : isHostOp i = true) (s : State) :
    exec i s = (hostRefusal i s).elim (.next (afterHostOp i s)) .refused := by
  cases hb : s.busy with
  | true => rw [exec_of_busy i hh hb, hostRefusal, portCheck_of_busy hb]; rfl
  | false =>
    by_cases hi : i ≠ .beginOp ∧ s.init = false
    · rw [exec_of_init_false i hh hi.1 hb hi.2, hostRefusal, decide_eq_true hi.1, portCheck_of_init_false hb hi.2]; rfl
    · have hready : i ≠ .beginOp → s.init = true := fun hne => by simpa [hne] using hi
      rw [hostRefusal, portCheck_eq_none.2 ⟨hb, fun hne => hready (of_decide_eq_true hne)⟩]
      cases i with
      | rowBytes y =>
        cases hy : coordInRange y s.cfg.height with
        | true => simpa [rowRefusal, hy] using exec_of_ready hh hb hready (by rintro _ ⟨⟩; exact hy)
        | false => simpa [rowRefusal, hy] using exec_rowBytes_of_out (hready nofun) hb hy
      | beginOp | setPixel | getPixel | fill | clear | txClear | txFrame | txToggle => exact exec_of_ready hh hb hready nofun
      | wWrite | wClear | wToggle => cases hh

/-- What a host operation that completes has passed, and where it completes. -/
theorem exec_hostOp_next {i : Instr} {s t : State} (hh : isHostOp i = true) (h : exec i s = .next t) :
    (i ≠ .beginOp → s.init = true) ∧ t = afterHostOp i s := by
  have hr := exec_hostOp hh s
  rw [h] at hr
  cases hq : hostRefusal i s with
  | some r => rw [hq] at hr; cases hr
  | none =>
    rw [hq] at hr
    refine ⟨fun hne => ?_, Host.Outcome.next.inj hr⟩
    exact (portCheck_eq_none.1 (Option.or_eq_none_iff.1 hq).1).2 (decide_eq_true hne)

/-! What a host operation has done -/

/-- What a host operation that completes in `s` has left: an operation on pixels, a transmission, or a BEGIN. -/
inductive HostEffect (s : State) : State → Prop
  | pixels (hi : s.init = true) (x y : Coord) (v r : Bool) (l : List Byte) (m : Mem) (hw : s.fb.wf = true → m.wf = true)
      (hm : (∀ c ∈ s.fb, c.1 < fbBytesOf s.cfg) → ∀ c ∈ m, c.1 < fbBytesOf s.cfg) :
      HostEffect s { s with opx := x, opy := y, opv := v, res := r, rowRes := l, fb := m, busy := false }
  | transmitted (hi : s.init = true) (k : Kind) : HostEffect s (afterTransmission s k)
  | begun : HostEffect s (afterBegin s)
  | failed : HostEffect s (afterFailedBegin s)

theorem hostEffect_of_exec {i : Instr} {s t : State} (hh : isHostOp i = true) (h : exec i s = .next t) : HostEffect s t := by
  obtain ⟨hinit, rfl⟩ := exec_hostOp_next hh h
  cases i with
  | beginOp =>
    rw [afterHostOp]
    split
    · exact .begun
    · exact .failed
  | setPixel x y v => exact .pixels (hinit nofun) x y v s.res s.rowRes _ (setPixelFb_wf · x y v) (setPixelFb_bound · x y v)
  | getPixel x y => exact .pixels (hinit nofun) x y s.opv _ s.rowRes s.fb id id
  | fill v => exact .pixels (hinit nofun) s.opx s.opy v s.res s.rowRes _ (Mem.wf_fill · _ _) Mem.fill_bound
  | clear => exact .pixels (hinit nofun) s.opx s.opy false s.res s.rowRes _ (Mem.wf_fill · _ _) Mem.fill_bound
  | rowBytes y => exact .pixels (hinit nofun) s.opx y s.opv s.res _ s.fb id id
  | txClear => exact .transmitted (hinit nofun) .clear
  | txFrame => exact .transmitted (hinit nofun) .write
  | txToggle => exact .transmitted (hinit nofun) .toggle
  | wWrite | wClear | wToggle => cases hh

/-! What a step has done -/

/-- A BEGIN at the start of its clear, in closed form. -/
theorem beginStarted_eq (s : State) :
    beginStarted s =
      { s with
        busy := true, env := s.env.tail, cs := .high, wire := s.wire ++ [.csConfig, .csAssert], sclk := levelOf s.cfg.cpol,
        mosi := levelOf (Config.freeMosi (s.draws + 1)), draws := s.draws + 2, init := true, vcom := s.init && s.vcom,
        ntx := if s.init then s.ntx else 0, kind := .clear, m1l := s.init && s.vcom,
        seq := { phase := .setup, row := 0, idx := 0, bit := 0 }, inBegin := true } := by
  cases hi : s.init <;>
    simp [beginStarted, State.startFrame, State.openFrame, State.csAssert, State.beginAcquire, State.markInit, State.releaseMosi,
      State.clockIdle, State.configureCs, State.takeAnswer, State.driveCs, State.emit, State.accept, State.moveSeq, hi]

/-- What a step that answers a next state has done: nothing; a host operation, whole or started; or one transition of the sequencer. -/
inductive StepEffect (s : State) : State → Prop
  | nothing (hp : s.seq.phase = .idle) : StepEffect s s
  | completed {w : HostWord} {rest : List HostWord} {t : State} (hp : s.seq.phase = .idle) (hw : s.host = w :: rest)
      (h : HostEffect { s with host := rest } t) : StepEffect s t
  | started {w : HostWord} {rest : List HostWord} (hp : s.seq.phase = .idle) (hw : s.host = w :: rest) (hi : s.init = true) (k : Kind) :
      StepEffect s (State.startFrame { s with host := rest, busy := true } k)
  | beginStarted {w : HostWord} {rest : List HostWord} (hp : s.seq.phase = .idle) (hw : s.host = w :: rest) :
      StepEffect s (beginStarted { s with host := rest })
  | waited (hp : s.seq.phase = .setup) : StepEffect s (s.moveSeq { phase := .cmd, row := 0, idx := 0, bit := 0 })
  | sent (hp : s.seq.phase.sendsByte = true) : StepEffect s (afterByte s (byteToSend s) (nextPos s.cfg s.kind s.seq))
  | ended (hp : s.seq.phase = .hold) : StepEffect s (afterHold s)

/-- What a host word decodes to is a host operation. -/
theorem isHostOp_of_decodeHost {w : HostWord} {i : Instr} (h : decodeHost w = .ok i) : isHostOp i = true := by
  obtain ⟨-, u, hu⟩ := decodeHost_ok h
  cases i with
  | wWrite | wClear | wToggle => cases hu
  | _ => rfl

section
variable {s : State} {w : HostWord} {rest : List HostWord} (hp : s.seq.phase = .idle) (hw : s.host = w :: rest)
include hp hw

theorem stepEffect_of_exec {i : Instr} {t : State} (hh : isHostOp i = true) (h : exec i { s with host := rest } = .next t) :
    StepEffect s t :=
  .completed hp hw (hostEffect_of_exec hh h)

theorem stepEffect_of_startTransmission {k : Kind} {t : State} (h : startTransmission k { s with host := rest } = .next t) :
    StepEffect s t := by
  obtain ⟨-, hi, rfl⟩ := startTransmission_eq_next.1 h
  exact .started hp hw hi k

theorem stepEffect_of_startOp {i : Instr} {t : State} (hh : isHostOp i = true) (h : startOp i { s with host := rest } = .next t) :
    StepEffect s t := by
  cases i with
  | beginOp =>
    obtain ⟨-, rfl⟩ := startBegin_eq_next.1 h
    split
    · exact .beginStarted hp hw
    · exact .completed hp hw .failed
  | txClear | txFrame | txToggle => exact stepEffect_of_startTransmission hp hw h
  | setPixel | getPixel | fill | clear | rowBytes => exact stepEffect_of_exec hp hw hh h
  | wWrite | wClear | wToggle => cases hh

end

theorem stepEffect_of_step {s t : State} (h : step s = .next t) : StepEffect s t := by
  rcases step_cases h with ⟨hp, -, rfl⟩ | ⟨w, rest, i, hp, hw, -, hd, hx⟩ | ⟨hp, -, rfl⟩ | ⟨hidle, hcmd, -, -, rfl⟩
  · exact .nothing hp
  · have hh := isHostOp_of_decodeHost hd
    split at hx
    · exact stepEffect_of_startOp hp hw hh hx
    · exact stepEffect_of_exec hp hw hh hx
  · have hsent := StepEffect.sent (s := s) (by rw [hp]; rfl)
    rwa [byteToSend, nextPos, hp, ← sendByte_moveSeq_eq] at hsent
  · rcases phase_cases hidle with hp | hp | hp
    · rw [sequencerMove, hp]
      exact .waited hp
    · rw [sequencerMove, hp]
      show StepEffect s s.endTransmission
      rw [endTransmission_eq]
      exact .ended hp
    · rw [sequencerMove_of_sendsByte hp hcmd]
      exact .sent hp

/-! The rules of every step -/

/-- In CMD a step executes the wire command that KIND and M1L form (42_framer_primitives.md R180). -/
theorem step_of_cmd {s : State} (hp : s.seq.phase = .cmd) : step s = exec (wireInstr s.kind s.m1l) s := by
  simp only [step, fetch, hp, fetchCommand, decodeWire_cmdByte, runFetched]

/-- With nothing to issue an idle block stays as it is (10_state.md R42). -/
theorem step_of_no_word {s : State} (hw : s.host = []) (hp : s.seq.phase = .idle) : step s = .next s := by
  simp only [step, fetch, hp, fetchHost, hw, runFetched]

/-- Settles O7: the port hands the decoded operation to its form, CMD the wire command of KIND and M1L. -/
theorem stepRunsTheDecodedInstruction : Obligations.StepRunsTheDecodedInstruction := by
  refine ⟨fun s w rest i hw hp hb hd => ⟨fun hs => ?whole, fun hs => ?stepwise⟩, fun _ => step_of_cmd, fun _ => step_of_no_word⟩
  case whole => rw [step_of_decodeHost_ok hw hp hb hd, hs, if_neg Bool.false_ne_true]
  case stepwise => rw [step_of_decodeHost_ok hw hp hb hd, hs, if_pos rfl]

theorem HostEffect.wire_grows {s t : State} (h : HostEffect s t) : ∃ w, t.wire = s.wire ++ w := by
  cases h with
  | pixels => exact ⟨[], (List.append_nil _).symm⟩
  | transmitted => exact ⟨_, rfl⟩
  | begun => exact ⟨_, rfl⟩
  | failed =>
    simp only [afterFailedBegin]
    split
    · exact ⟨_, rfl⟩
    · exact ⟨[], (List.append_nil _).symm⟩

/-- No host operation touches the parameters, the form or the host's list, and none clears INIT. -/
theorem HostEffect.keeps {s t : State} (h : HostEffect s t) :
    t.cfg = s.cfg ∧ t.stepwise = s.stepwise ∧ t.host = s.host ∧ (s.init = true → t.init = true) := by
  cases h with
  | pixels hi => exact ⟨rfl, rfl, rfl, id⟩
  | transmitted hi => exact ⟨rfl, rfl, rfl, id⟩
  | begun => exact ⟨rfl, rfl, rfl, fun _ => rfl⟩
  | failed => exact ⟨rfl, rfl, rfl, id⟩

/-- Settles O48: each thing a step can do appends events to the trace, keeps the fields named, and takes at most one word. -/
theorem traceGrowsAndInitStays : Obligations.TraceGrowsAndInitStays := by
  intro s t h
  cases stepEffect_of_step h with
  | nothing => exact ⟨⟨[], (List.append_nil _).symm⟩, rfl, rfl, id, .inl rfl⟩
  | completed hp hw he =>
    obtain ⟨hcfg, hstep, hhost, hinit⟩ := he.keeps
    exact ⟨he.wire_grows, hcfg, hstep, hinit, .inr ⟨_, by rw [hhost]; exact hw⟩⟩
  | started hp hw => exact ⟨⟨_, rfl⟩, rfl, rfl, id, .inr ⟨_, hw⟩⟩
  | beginStarted hp hw =>
    rw [beginStarted_eq]
    exact ⟨⟨_, rfl⟩, rfl, rfl, fun _ => rfl, .inr ⟨_, hw⟩⟩
  | waited => exact ⟨⟨[], (List.append_nil _).symm⟩, rfl, rfl, id, .inl rfl⟩
  | sent => exact ⟨⟨_, rfl⟩, rfl, rfl, id, .inl rfl⟩
  | ended => exact ⟨⟨_, rfl⟩, rfl, rfl, id, .inl rfl⟩

theorem append_envelope (w : List Event) (bs : List Byte) :
    w ++ envelope bs = w ++ (.csAssert :: bs.map .byte) ++ [.csDeassert] := by
  simp [envelope]

/-- Once INIT = 1 a host operation leaves VCOM and NTX, or is a transmission (41_transport_ops.md R145). -/
theorem HostEffect.flips {s t : State} (h : HostEffect s t) (hi : s.init = true) :
    (t.vcom = s.vcom ∧ t.ntx = s.ntx) ∨ (t.vcom = !s.vcom ∧ t.ntx = s.ntx + 1 ∧ ∃ w, t.wire = s.wire ++ w ++ [.csDeassert]) := by
  cases h with
  | pixels => exact .inl ⟨rfl, rfl⟩
  | transmitted _ k => exact .inr ⟨rfl, rfl, _, append_envelope s.wire _⟩
  | begun =>
    refine .inr ⟨by simp [afterBegin, hi], by simp [afterBegin, hi], .csConfig :: .csAssert :: (clearFrame s.vcom).map .byte, ?_⟩
    simp [afterBegin, hi, envelope]
  | failed => exact .inl ⟨rfl, rfl⟩

/-- Settles O49: of the things a step can do only a whole transmission and HOLD flip VCOM, and both end the trace with CS_DEASSERT. -/
theorem onlyTransmissionsFlipPolarity : Obligations.OnlyTransmissionsFlipPolarity := by
  intro s t h hi
  cases stepEffect_of_step h with
  | completed hp hw he => exact he.flips hi
  | ended => exact .inr ⟨rfl, rfl, [], by simp [afterHold]⟩
  | beginStarted => simp [beginStarted_eq, hi]
  | nothing | started | waited | sent => exact .inl ⟨rfl, rfl⟩

/-- Settles O50: each operation's completed state, field by field. -/
theorem onlyTheNamedWritersWrite : Obligations.OnlyTheNamedWritersWrite := by
  intro i s t hh h
  obtain ⟨-, rfl⟩ := exec_hostOp_next hh h
  cases i with
  | beginOp =>
    rw [afterHostOp]
    split <;> simp [afterBegin, afterFailedBegin]
  | setPixel | getPixel | fill | clear | rowBytes => simp [afterHostOp]
  | txClear => simp [afterHostOp, afterTransmission, show ∃ k, Instr.txClear = txOp k from ⟨.clear, rfl⟩]
  | txFrame => simp [afterHostOp, afterTransmission, show ∃ k, Instr.txFrame = txOp k from ⟨.write, rfl⟩]
  | txToggle => simp [afterHostOp, afterTransmission, show ∃ k, Instr.txToggle = txOp k from ⟨.toggle, rfl⟩]
  | wWrite | wClear | wToggle => cases hh

end Sys2Proof.Machine
end

section
/-! SUPPORT. The invariant, by kind of state: what an idle state and a state inside a transmission need for it, and that every effect of
an operation and of a transition leaves such a state (10_state.md R24 to R30, R39, R40; 41_transport_ops.md R145, R152). -/

namespace Sys2Proof.Machine

/-! The frames of the trace -/

/-- The complete frames of a trace that counts `n` transmissions: of the shapes of 30_encoding.md, M1 alternating from 0. -/
structure FramesCounted (c : Config) (n : Nat) (d : List (List Byte)) : Prop where
  count : d.length = n
  shapes : ∀ f ∈ d, FrameShape c f
  alternates : ∀ i f, d[i]? = some f → frameM1 f = decide (i % 2 = 1)

theorem frameM1_frameOf (c : Config) (m : Mem) (k : Kind) (m1 : Bool) : frameM1 (frameOf c m k m1) = m1 := by
  obtain ⟨-, hm1, -⟩ := cmdByte_bits k m1
  cases k <;> exact hm1

theorem FramesCounted.nil (c : Config) : FramesCounted c 0 [] := ⟨rfl, nofun, nofun⟩

/-- The next frame carries the polarity of the count. -/
theorem FramesCounted.snoc {c : Config} {n : Nat} {d : List (List Byte)} (h : FramesCounted c n d) (m : Mem) (k : Kind) :
    FramesCounted c (n + 1) (d ++ [frameOf c m k (decide (n % 2 = 1))]) where
  count := by simp [h.count]
  shapes := by
    intro f hf
    rcases List.mem_append.1 hf with hf | hf
    · exact h.shapes f hf
    · exact ⟨k, m, _, List.mem_singleton.1 hf⟩
  alternates := by
    intro i f hf
    rcases Nat.lt_or_ge i d.length with hi | hi
    · rw [List.getElem?_append_left hi] at hf
      exact h.alternates i f hf
    · rw [List.getElem?_append_right hi] at hf
      obtain ⟨hj, rfl⟩ := List.getElem?_eq_some_iff.1 hf
      have hlast : i = n := by
        rw [List.length_singleton] at hj
        have := h.count
        omega
      rw [List.getElem_singleton, frameM1_frameOf, hlast]

/-- CS_CONFIG is read wherever CS is not high, and leaves CS low. -/
theorem readTrace_csConfig {w : List Event} {v : TraceView} (h : readTrace w = some v) (hp : v.pin ≠ .high) :
    readTrace (w ++ [.csConfig]) = some { v with pin := .low } := by
  rw [readTrace_snoc h]
  obtain ⟨pin, d, cur⟩ := v
  cases pin with
  | high => exact absurd rfl hp
  | z | low => rfl

theorem readTrace_csAssert {w : List Event} {v : TraceView} (h : readTrace w = some v) (hp : v.pin = .low) :
    readTrace (w ++ [.csAssert]) = some { v with pin := .high, cur := [] } := by
  rw [readTrace_snoc h]
  simp only [readEvent, hp]

theorem readTrace_byte {w : List Event} {v : TraceView} (h : readTrace w = some v) (hp : v.pin = .high) (b : Byte) :
    readTrace (w ++ [.byte b]) = some { v with cur := v.cur ++ [b] } := by
  rw [readTrace_snoc h]
  simp only [readEvent, hp]

theorem readTrace_csDeassert {w : List Event} {v : TraceView} (h : readTrace w = some v) (hp : v.pin = .high)
    (hl : 2 ≤ v.cur.length) : readTrace (w ++ [.csDeassert]) = some { pin := .low, done := v.done ++ [v.cur], cur := [] } := by
  rw [readTrace_snoc h]
  simp only [readEvent, hp, if_pos hl]

/-! The invariant by kind of state -/

/-- The part of the invariant that speaks neither of the sequencer's position nor of the trace. -/
structure StoredInv (s : State) : Prop where
  memWf : s.fb.wf = true
  memBound : ∀ c ∈ s.fb, c.1 < fbBytesOf s.cfg
  polarity : s.init = true → s.vcom = decide (s.ntx % 2 = 1)
  clockRests : s.init = true → s.sclk = levelOf s.cfg.cpol

/-- What makes the invariant hold outside a transmission. -/
theorem inv_of_idle {s : State} {v : TraceView} (hs : StoredInv s) (hpos : s.seq = Seq.idlePos) (hb : s.busy = false)
    (hin : s.inBegin = false) (hun : s.init = false → s.ntx = 0) (hcs : s.cs ≠ .high) (hdrv : s.init = true → s.cs ≠ .z)
    (hread : readTrace s.wire = some v) (hpin : v.pin = s.cs) (hf : FramesCounted s.cfg s.ntx v.done) : Inv s where
  memWf := hs.memWf
  memBound := hs.memBound
  polarity := hs.polarity
  untouched := fun hi => ⟨hun hi, by rw [hpos]; rfl⟩
  idlePos := fun _ => ⟨hpos, hb, hin⟩
  running := fun hp => absurd (by rw [hpos]; rfl) hp
  rowsOfWrite := fun hp => by rw [hpos] at hp; rcases hp with hp | hp | hp <;> cases hp
  csHigh := ⟨fun h => absurd h hcs, fun hp => absurd (by rw [hpos]; rfl) hp⟩
  csDriven := hdrv
  clockRests := hs.clockRests
  trace := ⟨v, hread, hpin, hf.count, hf.shapes, hf.alternates, fun hp => absurd (by rw [hpos]; rfl) hp⟩

/-- What makes it hold inside one. -/
theorem inv_of_running {s : State} {v : TraceView} (hs : StoredInv s) (hpos : PosInFrame s.cfg s.kind s.seq) (hi : s.init = true)
    (hb : s.busy = true) (hm : s.m1l = s.vcom) (hcs : s.cs = .high) (hread : readTrace s.wire = some v) (hpin : v.pin = .high)
    (hf : FramesCounted s.cfg s.ntx v.done)
    (hcur : v.cur = (frameOf s.cfg s.fb s.kind s.m1l).take (seqOffset s.cfg s.kind s.seq)) : Inv s where
  memWf := hs.memWf
  memBound := hs.memBound
  polarity := hs.polarity
  untouched := fun h => by rw [hi] at h; cases h
  idlePos := fun hp => absurd hp hpos.running
  running := fun _ => ⟨hb, hpos.bit, hpos.inRange, hm⟩
  rowsOfWrite := hpos.rowsOfWrite
  csHigh := ⟨fun _ => hpos.running, fun _ => hcs⟩
  csDriven := fun _ => by rw [hcs]; nofun
  clockRests := hs.clockRests
  trace := ⟨v, hread, hpin.trans hcs.symm, hf.count, hf.shapes, hf.alternates, fun _ => hcur⟩

theorem Inv.reads {s : State} (h : Inv s) :
    ∃ v, readTrace s.wire = some v ∧ v.pin = s.cs ∧ FramesCounted s.cfg s.ntx v.done := by
  obtain ⟨v, hv⟩ := h.trace
  exact ⟨v, hv.reads, hv.pin, hv.count, hv.shapes, hv.alternates⟩

/-! An idle state that meets it -/

section
variable {s : State} (h : Inv s) (hp : s.seq.phase = .idle)
include h

/-- The words the host has still to issue play no part (log 1). -/
theorem Inv.withHost (ws : List HostWord) : Inv { s with host := ws } := by
  obtain ⟨v, hv⟩ := h.trace
  exact ⟨h.memWf, h.memBound, h.polarity, h.untouched, h.idlePos, h.running, h.rowsOfWrite, h.csHigh, h.csDriven, h.clockRests,
    v, hv.reads, hv.pin, hv.count, hv.shapes, hv.alternates, hv.opened⟩

/-- The polarity and the count a BEGIN's clear starts from are the count's own, first BEGIN or not. -/
theorem Inv.begin_polarity : (s.init && s.vcom) = decide (s.ntx % 2 = 1) ∧ (if s.init then s.ntx else 0) = s.ntx := by
  cases hi : s.init with
  | true => exact ⟨h.polarity hi, rfl⟩
  | false =>
    obtain ⟨hn, -⟩ := h.untouched hi
    simp [hn]

include hp

theorem Inv.cs_ne_high : s.cs ≠ .high := fun hc => h.csHigh.1 hc hp

theorem Inv.cs_low (hi : s.init = true) : s.cs = .low := by
  cases hc : s.cs with
  | z => exact absurd hc (h.csDriven hi)
  | low => rfl
  | high => exact absurd hc (h.cs_ne_high hp)

end

theorem not_decide_odd (n : Nat) : (!decide (n % 2 = 1)) = decide ((n + 1) % 2 = 1) := by
  rw [← decide_not, decide_eq_decide]
  omega

/-- The state after reset meets the invariant. -/
theorem inv_resetOf (c : Config) : Inv (State.resetOf c) :=
  inv_of_idle (v := { pin := .z, done := [], cur := [] }) ⟨rfl, nofun, nofun, nofun⟩ rfl rfl rfl (fun _ => rfl) nofun nofun rfl rfl
    (.nil c)

/-- Settles O45: reset is idle, with an empty trace. -/
theorem resetMeetsTheInvariant : Obligations.ResetMeetsTheInvariant := ⟨inv_resetOf, inv_resetOf _⟩

/-! The effects of a host operation -/

/-- A fill keeps the part of the invariant about FB. -/
theorem Inv.fill_ite {s : State} (h : Inv s) (p : Prop) [Decidable p] :
    (if p then s.fb.fill (fbBytesOf s.cfg) 0#8 else s.fb).wf = true ∧
      ∀ c ∈ (if p then s.fb.fill (fbBytesOf s.cfg) 0#8 else s.fb), c.1 < fbBytesOf s.cfg := by
  split
  · exact ⟨Mem.wf_fill h.memWf _ _, Mem.fill_bound h.memBound⟩
  · exact ⟨h.memWf, h.memBound⟩

section
variable {s : State} (h : Inv s) (hp : s.seq.phase = .idle)
include h hp

theorem inv_afterTransmission (hi : s.init = true) (k : Kind) : Inv (afterTransmission s k) := by
  obtain ⟨-, -, hin⟩ := h.idlePos hp
  obtain ⟨v, hread, hpin, hf⟩ := h.reads
  obtain ⟨hw, hm⟩ := h.fill_ite (k = .clear)
  have hlow := h.cs_low hp hi
  have hnext := readTrace_envelope (bs := frameOf s.cfg s.fb k s.vcom) hread (hpin.trans hlow)
    (by rw [length_frameOf]; exact two_le_frameLength ..)
  rw [h.polarity hi] at hnext
  refine inv_of_idle (v := ⟨.low, v.done ++ [frameOf s.cfg s.fb k (decide (s.ntx % 2 = 1))], []⟩)
    ⟨hw, hm, fun _ => ?_, fun _ => rfl⟩ rfl rfl hin (fun hf => ?_) nofun nofun
    (by rw [afterTransmission_wire, h.polarity hi]; exact hnext) rfl (hf.snoc s.fb k)
  · show (!s.vcom) = _
    rw [h.polarity hi]
    exact not_decide_odd _
  · exact absurd (hi.symm.trans hf) (by decide)

theorem inv_afterBegin : Inv (afterBegin s) := by
  obtain ⟨-, -, hin⟩ := h.idlePos hp
  obtain ⟨v, hread, hpin, hf⟩ := h.reads
  obtain ⟨hm1, hn⟩ := h.begin_polarity
  have hcfg := readTrace_csConfig hread (by rw [hpin]; exact h.cs_ne_high hp)
  have hnext := readTrace_envelope (bs := clearFrame (s.init && s.vcom)) hcfg rfl (Nat.le_refl 2)
  rw [List.append_assoc] at hnext
  refine inv_of_idle ⟨Mem.wf_fill h.memWf _ _, Mem.fill_bound h.memBound, fun _ => ?_, fun _ => rfl⟩ rfl rfl hin nofun nofun nofun
    hnext rfl ?_
  · show (!(s.init && s.vcom)) = decide (((if s.init then s.ntx else 0) + 1) % 2 = 1)
    rw [hm1, hn]
    exact not_decide_odd _
  · show FramesCounted s.cfg ((if s.init then s.ntx else 0) + 1) (v.done ++ [clearFrame (s.init && s.vcom)])
    rw [hm1, hn]
    exact hf.snoc s.fb .clear

theorem inv_afterFailedBegin : Inv (afterFailedBegin s) := by
  obtain ⟨hpos, -, hin⟩ := h.idlePos hp
  obtain ⟨v, hread, hpin, hf⟩ := h.reads
  have hhigh := h.cs_ne_high hp
  unfold afterFailedBegin
  cases s.acqAnswer.csConfigured with
  | true =>
    exact inv_of_idle ⟨h.memWf, h.memBound, h.polarity, h.clockRests⟩ hpos rfl hin (fun hi => (h.untouched hi).1) nofun nofun
      (readTrace_csConfig hread (by rwa [hpin])) rfl hf
  | false =>
    exact inv_of_idle ⟨h.memWf, h.memBound, h.polarity, h.clockRests⟩ hpos rfl hin (fun hi => (h.untouched hi).1) hhigh h.csDriven
      hread hpin hf

/-- A host operation completed in an idle state leaves an idle state, and the invariant. -/
theorem inv_of_hostEffect {t : State} (he : HostEffect s t) : Inv t ∧ t.seq.phase = .idle := by
  obtain ⟨hpos, -, hin⟩ := h.idlePos hp
  cases he with
  | pixels hi x y v r l m hw hm =>
    obtain ⟨v, hread, hpin, hf⟩ := h.reads
    exact ⟨inv_of_idle ⟨hw h.memWf, hm h.memBound, h.polarity, h.clockRests⟩ hpos rfl hin (fun hi => (h.untouched hi).1)
      (h.cs_ne_high hp) h.csDriven hread hpin hf, hp⟩
  | transmitted hi k => exact ⟨inv_afterTransmission h hp hi k, rfl⟩
  | begun => exact ⟨inv_afterBegin h hp, rfl⟩
  | failed => exact ⟨inv_afterFailedBegin h hp, hp⟩

/-! The starts of a transmission -/

theorem inv_startFrame (hi : s.init = true) (k : Kind) : Inv (State.startFrame { s with busy := true } k) := by
  obtain ⟨v, hread, hpin, hf⟩ := h.reads
  exact inv_of_running ⟨h.memWf, h.memBound, h.polarity, h.clockRests⟩ (posInFrame_of_not_row _ _ (by simp)) hi rfl rfl rfl
    (readTrace_csAssert hread (hpin.trans (h.cs_low hp hi))) rfl hf rfl

theorem inv_beginStarted : Inv (beginStarted s) := by
  obtain ⟨v, hread, hpin, hf⟩ := h.reads
  obtain ⟨hm1, hn⟩ := h.begin_polarity
  have hcfg := readTrace_csConfig hread (by rw [hpin]; exact h.cs_ne_high hp)
  have hnext := readTrace_csAssert hcfg rfl
  rw [List.append_assoc] at hnext
  rw [beginStarted_eq, hm1, hn]
  exact inv_of_running ⟨h.memWf, h.memBound, fun _ => rfl, fun _ => rfl⟩ (posInFrame_of_not_row _ _ (by simp)) rfl rfl rfl rfl hnext rfl hf rfl

end

/-! The transitions of the sequencer -/

section
variable {s : State} (h : Inv s) (hp : s.seq.phase ≠ .idle)
include h hp

/-- Inside a transmission the block is initialised, inside an envelope, at a position of the frame, with M1L the polarity. -/
theorem Inv.inFrame : s.init = true ∧ s.cs = .high ∧ PosInFrame s.cfg s.kind s.seq ∧ s.busy = true ∧ s.m1l = s.vcom := by
  obtain ⟨hb, hbit, hr, hm⟩ := h.running hp
  refine ⟨?_, h.csHigh.2 hp, ⟨hp, hbit, hr, h.rowsOfWrite⟩, hb, hm⟩
  by_contra hi
  exact hp (h.untouched (Bool.eq_false_iff.2 hi)).2

theorem Inv.readsOpen :
    ∃ v, readTrace s.wire = some v ∧ v.pin = .high ∧ FramesCounted s.cfg s.ntx v.done ∧
      v.cur = (frameOf s.cfg s.fb s.kind s.m1l).take (seqOffset s.cfg s.kind s.seq) := by
  obtain ⟨v, hv⟩ := h.trace
  exact ⟨v, hv.reads, hv.pin.trans (h.csHigh.2 hp), ⟨hv.count, hv.shapes, hv.alternates⟩, hv.opened hp⟩

end

theorem inv_afterSetup {s : State} (h : Inv s) (hp : s.seq.phase = .setup) :
    Inv (s.moveSeq { phase := .cmd, row := 0, idx := 0, bit := 0 }) := by
  have hne : s.seq.phase ≠ .idle := by simp [hp]
  obtain ⟨hi, hcs, -, hb, hm⟩ := h.inFrame hne
  obtain ⟨v, hread, hpin, hf, hcur⟩ := h.readsOpen hne
  rw [seqOffset, hp] at hcur
  exact inv_of_running ⟨h.memWf, h.memBound, h.polarity, h.clockRests⟩ (posInFrame_of_not_row _ _ (by simp)) hi hb hm hcs hread hpin hf hcur

/-- A byte sent is the open frame's next one. -/
theorem inv_afterByte {s : State} (h : Inv s) (hp : s.seq.phase.sendsByte = true) :
    Inv (afterByte s (byteToSend s) (nextPos s.cfg s.kind s.seq)) := by
  have hne : s.seq.phase ≠ .idle := fun he => by rw [he] at hp; cases hp
  obtain ⟨hi, hcs, hpos, hb, hm⟩ := h.inFrame hne
  obtain ⟨v, hread, hpin, hf, hcur⟩ := h.readsOpen hne
  refine inv_of_running ⟨h.memWf, h.memBound, h.polarity, fun _ => rfl⟩ (posInFrame_nextPos hpos hp).1 hi hb hm hcs
    (readTrace_byte hread hpin _) hpin hf ?_
  show v.cur ++ [byteToSend s] = (frameOf s.cfg s.fb s.kind s.m1l).take (seqOffset s.cfg s.kind (nextPos s.cfg s.kind s.seq))
  rw [seqOffset_nextPos hpos hp, hcur, List.take_add_one, getElem?_frameOf_seqOffset hpos hp]
  rfl

/-- HOLD closes the whole frame. -/
theorem inv_afterHold {s : State} (h : Inv s) (hp : s.seq.phase = .hold) : Inv (afterHold s) := by
  have hne : s.seq.phase ≠ .idle := by simp [hp]
  obtain ⟨hi, hcs, -, hb, hm⟩ := h.inFrame hne
  obtain ⟨v, hread, hpin, hf, hcur⟩ := h.readsOpen hne
  obtain ⟨hw, hm'⟩ := h.fill_ite (s.kind = .clear)
  have hwhole : v.cur = frameOf s.cfg s.fb s.kind (decide (s.ntx % 2 = 1)) := by
    rw [hcur, seqOffset, hp, List.take_of_length_le (by rw [length_frameOf]), hm, h.polarity hi]
  have hnext := readTrace_csDeassert hread hpin (by rw [hwhole, length_frameOf]; exact two_le_frameLength ..)
  rw [hwhole] at hnext
  refine inv_of_idle ⟨hw, hm', fun _ => ?_, h.clockRests⟩ rfl rfl rfl (fun hf => ?_) nofun nofun hnext rfl (hf.snoc s.fb s.kind)
  · show (!s.vcom) = _
    rw [h.polarity hi]
    exact not_decide_odd _
  · exact absurd (hi.symm.trans hf) (by decide)

/-- Settles O46: each thing a step can do leaves an idle state or a state inside a transmission that meets the invariant. -/
theorem stepKeepsTheInvariant : Obligations.StepKeepsTheInvariant := by
  intro s t h hstep
  cases stepEffect_of_step hstep with
  | nothing => exact h
  | @completed _ rest _ hp hw he => exact (inv_of_hostEffect (h.withHost rest) hp he).1
  | @started _ rest hp hw hi k => exact inv_startFrame (h.withHost rest) hp hi k
  | @beginStarted _ rest hp hw => exact inv_beginStarted (h.withHost rest) hp
  | waited hp => exact inv_afterSetup h hp
  | sent hp => exact inv_afterByte h hp
  | ended hp => exact inv_afterHold h hp

end Sys2Proof.Machine
end

section
/-! SUPPORT. What follows from the invariant: no fault, the end of an operation, the end of a transmission (60_exceptions.md R200, R203,
R214; 70_reset_and_hazards.md R235). -/

namespace Sys2Proof.Machine

/-- The outcomes a step has from a state that meets the invariant. -/
def Answered (r : Result) : Prop :=
  (∃ t, r = .next t) ∨ r = .refused .notInitialised ∨ r = .refused .reservedOp ∨ r = .refused .rowOutOfRange

theorem portCheck_cases {s : State} (hb : s.busy = false) (needInit : Bool) :
    portCheck needInit s = none ∨ portCheck needInit s = some .notInitialised := by
  cases hc : needInit && !s.init <;> simp [portCheck, hb, hc]

theorem rowRefusal_cases (i : Instr) (c : Config) : rowRefusal i c = none ∨ rowRefusal i c = some .rowOutOfRange := by
  unfold rowRefusal
  split
  · split <;> simp
  · exact .inl rfl

theorem answered_startTransmission {s : State} (hb : s.busy = false) (k : Kind) : Answered (startTransmission k s) := by
  cases hi : s.init with
  | true => exact .inl ⟨_, startTransmission_eq_next.2 ⟨hb, hi, rfl⟩⟩
  | false =>
    refine .inr (.inl ?_)
    rw [startTransmission, portCheck_of_init_false hb hi]

section
variable {i : Instr} {s : State} (hh : isHostOp i = true) (hb : s.busy = false)
include hh hb

theorem answered_exec : Answered (exec i s) := by
  rw [exec_hostOp hh, hostRefusal]
  rcases portCheck_cases hb (decide (i ≠ .beginOp)) with hp | hp <;> rw [hp]
  · rcases rowRefusal_cases i s.cfg with hr | hr <;> rw [hr]
    · exact .inl ⟨_, rfl⟩
    · exact .inr (.inr (.inr rfl))
  · exact .inr (.inl rfl)

theorem answered_startOp : Answered (startOp i s) := by
  cases i with
  | beginOp => exact .inl ⟨_, startBegin_eq_next.2 ⟨hb, rfl⟩⟩
  | txClear | txFrame | txToggle => exact answered_startTransmission hb _
  | setPixel | getPixel | fill | clear | rowBytes => exact answered_exec hh hb
  | wWrite | wClear | wToggle => cases hh

end

/-- Inside a transmission every step is a transition. -/
theorem exists_step_of_running {s : State} (h : Inv s) (hp : s.seq.phase ≠ .idle) : ∃ t, step s = .next t := by
  obtain ⟨-, hcs, hpos, -, -⟩ := h.inFrame hp
  rcases phase_cases hp with hs | hh | hb
  · exact ⟨_, step_setup hcs hpos hs⟩
  · exact ⟨_, step_hold hcs hpos hh⟩
  · exact ⟨_, step_of_sendsByte hcs hpos hb⟩

/-- Settles O47: an idle port is not busy, so it refuses a word that does not decode or runs the operation; the sequencer's position is
in range. -/
theorem noFaultFromTheInvariant : Obligations.NoFaultFromTheInvariant := by
  intro s h
  show Answered (step s)
  by_cases hp : s.seq.phase = .idle
  · obtain ⟨-, hb, -⟩ := h.idlePos hp
    cases hw : s.host with
    | nil => exact .inl ⟨s, step_of_no_word hw hp⟩
    | cons w rest =>
      cases hd : decodeHost w with
      | error e => exact .inr (.inr (.inl (step_of_decodeHost_error hw hp hb hd)))
      | ok i =>
        have hh := isHostOp_of_decodeHost hd
        rw [step_of_decodeHost_ok hw hp hb hd]
        split
        · exact answered_startOp hh hb
        · exact answered_exec hh hb
  · exact .inl (exists_step_of_running h hp)

theorem runEnded_of_idle {s : State} (h : Inv s) (hp : s.seq.phase = .idle) : RunEnded s := by
  obtain ⟨hpos, hb, -⟩ := h.idlePos hp
  exact ⟨hb, hpos, h.cs_low hp⟩

/-- Settles O54: a completed host operation leaves an idle state that meets the invariant. -/
theorem operationsEndIdle : Obligations.OperationsEndIdle := by
  refine ⟨fun s => runEnded_of_idle, fun i s t hh h hp hx => ?_⟩
  obtain ⟨ht, htp⟩ := inv_of_hostEffect h hp (hostEffect_of_exec hh hx)
  exact runEnded_of_idle ht htp

theorem seqOffset_le {s : State} (h : PosInFrame s.cfg s.kind s.seq) : seqOffset s.cfg s.kind s.seq ≤ frameLength s.cfg s.kind := by
  rcases phase_cases h.running with hp | hp | hp
  · simp [seqOffset, hp]
  · simp [seqOffset, hp]
  · exact (seqOffset_lt h hp).le

/-- Settles O55: the rest of the frame is sent byte by byte, and HOLD ends the transmission. -/
theorem everyTransmissionEnds : Obligations.EveryTransmissionEnds := by
  intro s h hp
  obtain ⟨-, hcs, hpos, -, -⟩ := h.inFrame hp
  have hend : ∀ bs, (afterHold (s.sendBytes bs)).seq = Seq.idlePos ∧ (afterHold (s.sendBytes bs)).busy = false ∧
      (afterHold (s.sendBytes bs)).host = s.host ∧ (afterHold (s.sendBytes bs)).vcom = !s.vcom := fun bs => by
    rw [sendBytes_changes_only]
    exact ⟨rfl, rfl, rfl, rfl⟩
  by_cases hs : s.seq.phase = .setup
  · exact ⟨_, _, le_rfl, runSteps_setup hcs hpos hs, hend _⟩
  · have hle := seqOffset_le hpos
    exact ⟨_, _, by omega, runSteps_rest hcs hpos hs (Nat.add_sub_cancel' hle), hend _⟩

end Sys2Proof.Machine
end

section
/-! SUPPORT. What no operation reads: the old latches, the serial mode, and what is unwritten before the first BEGIN (10_state.md R22;
42_framer_primitives.md R174, R185; 70_reset_and_hazards.md R230). -/

namespace Sys2Proof.Machine

/-- Two states that agree in BUSY, INIT and HEIGHT refuse a host operation alike; elsewhere its completed states decide. -/
theorem resultRel_exec {R : State → State → Prop} {i : Instr} {s t : State} (hh : isHostOp i = true) (hb : t.busy = s.busy)
    (hi : t.init = s.init) (hc : t.cfg.height = s.cfg.height) (h : R (afterHostOp i s) (afterHostOp i t)) :
    ResultRel R (exec i s) (exec i t) := by
  have hr : hostRefusal i t = hostRefusal i s := by simp only [hostRefusal, rowRefusal, portCheck, hb, hi, hc]
  rw [exec_hostOp hh, exec_hostOp hh, hr]
  cases hostRefusal i s with
  | none => exact h
  | some r => rfl

/-! Old latches -/

theorem SameButLatches.eq_with {s t : State} (h : SameButLatches s t) :
    ∃ x y v r l o sh k m ck mo, t = { s with opx := x, opy := y, opv := v, res := r, rowRes := l, ok := o, shift := sh, kind := k,
                                               m1l := m, sclk := ck, mosi := mo } :=
  ⟨_, _, _, _, _, _, _, _, _, _, _, h⟩

/-- A completed host operation writes the latches it names, and everything else alike. -/
theorem sameButLatches_afterHostOp (i : Instr) {s t : State} (h : SameButLatches s t) :
    SameButLatches (afterHostOp i s) (afterHostOp i t) := by
  obtain ⟨x, y, v, r, l, o, sh, k, m, ck, mo, rfl⟩ := h.eq_with
  cases i with
  | beginOp =>
    show SameButLatches (if s.acqAnswer.acqOk then _ else _) (if s.acqAnswer.acqOk then _ else _)
    split <;> rfl
  | setPixel | getPixel | fill | clear | rowBytes | txClear | txFrame | txToggle | wWrite | wClear | wToggle => rfl

/-- Settles O51: the completed states are alike but for the latches, and each result is computed from FB or from the answer. -/
theorem noOperationReadsOldLatches : Obligations.NoOperationReadsOldLatches := by
  intro i s t hh h
  have hafter := sameButLatches_afterHostOp i h
  obtain ⟨x, y, v, r, l, o, sh, k, m, ck, mo, rfl⟩ := h.eq_with
  refine ⟨resultRel_exec hh rfl rfl rfl hafter, fun u w hu hw => ?_⟩
  obtain ⟨-, rfl⟩ := exec_hostOp_next hh hu
  obtain ⟨-, rfl⟩ := exec_hostOp_next hh hw
  refine ⟨?res, ?ok, ?row⟩
  case res =>
    rintro ⟨x, y, rfl⟩
    rfl
  case ok =>
    rintro rfl
    show (if s.acqAnswer.acqOk then _ else _ : State).ok = (if s.acqAnswer.acqOk then _ else _ : State).ok
    split <;> rfl
  case row =>
    rintro ⟨y, rfl⟩
    rfl

/-! Serial mode -/

theorem SameButSerialMode.eq_with {s t : State} (h : SameButSerialMode s t) :
    ∃ bo f cl ch su ho sh ck,
      t = { s with
            cfg := { s.cfg with bitOrder := bo, fSclkLessOne := f, cpol := cl, cpha := ch, tCsSetupLessOne := su, tCsHoldLessOne := ho },
            shift := sh, sclk := ck } :=
  ⟨_, _, _, _, _, _, _, _, h⟩

section
variable {s t : State} (h : SameButSerialMode s t)
include h

/-- What the port and BEGIN decide by is the same. -/
theorem SameButSerialMode.port_alike :
    t.host = s.host ∧ t.busy = s.busy ∧ t.stepwise = s.stepwise ∧ t.acqAnswer = s.acqAnswer ∧
      portCheck true t = portCheck true s := by
  obtain ⟨bo, f, cl, ch, su, ho, sh, ck, rfl⟩ := h.eq_with
  exact ⟨rfl, rfl, rfl, rfl, rfl⟩

/-- What the sequencer decides by is the same. -/
theorem SameButSerialMode.sequencer_alike :
    t.seq = s.seq ∧ t.kind = s.kind ∧ t.m1l = s.m1l ∧ t.betweenBytes = s.betweenBytes ∧
      seqInRange t.cfg t.seq = seqInRange s.cfg s.seq := by
  obtain ⟨bo, f, cl, ch, su, ho, sh, ck, rfl⟩ := h.eq_with
  exact ⟨rfl, rfl, rfl, rfl, rfl⟩

theorem sameButSerialMode_afterByte (b : Byte) (p : Seq) : SameButSerialMode (afterByte s b p) (afterByte t b p) := by
  obtain ⟨bo, f, cl, ch, su, ho, sh, ck, rfl⟩ := h.eq_with
  rfl

theorem sameButSerialMode_startFrame (k : Kind) : SameButSerialMode (s.accept.startFrame k) (t.accept.startFrame k) := by
  obtain ⟨bo, f, cl, ch, su, ho, sh, ck, rfl⟩ := h.eq_with
  rfl

end

theorem sameButSerialMode_afterHostOp (i : Instr) {s t : State} (h : SameButSerialMode s t) :
    SameButSerialMode (afterHostOp i s) (afterHostOp i t) := by
  obtain ⟨bo, f, cl, ch, su, ho, sh, ck, rfl⟩ := h.eq_with
  cases i with
  | beginOp =>
    show SameButSerialMode (if s.acqAnswer.acqOk then _ else _) (if s.acqAnswer.acqOk then _ else _)
    split <;> rfl
  | setPixel | getPixel | fill | clear | rowBytes | txClear | txFrame | txToggle => rfl
  | wWrite | wClear | wToggle => rfl

theorem resultRel_exec_serialMode {i : Instr} {s t : State} (hh : isHostOp i = true) (h : SameButSerialMode s t) :
    ResultRel SameButSerialMode (exec i s) (exec i t) := by
  have hafter := sameButSerialMode_afterHostOp i h
  obtain ⟨bo, f, cl, ch, su, ho, sh, ck, rfl⟩ := h.eq_with
  exact resultRel_exec hh rfl rfl rfl hafter

section
variable {s t : State} (h : SameButSerialMode s t)
include h

theorem resultRel_startTransmission (k : Kind) : ResultRel SameButSerialMode (startTransmission k s) (startTransmission k t) := by
  obtain ⟨-, -, -, -, hport⟩ := h.port_alike
  rw [startTransmission, startTransmission, hport]
  cases portCheck true s with
  | none => exact sameButSerialMode_startFrame h k
  | some r => rfl

theorem sameButSerialMode_beginStarted : SameButSerialMode (beginStarted s) (beginStarted t) := by
  obtain ⟨bo, f, cl, ch, su, ho, sh, ck, rfl⟩ := h.eq_with
  rw [beginStarted_eq, beginStarted_eq]
  rfl

theorem resultRel_startBegin : ResultRel SameButSerialMode (startBegin s) (startBegin t) := by
  obtain ⟨-, hbusy, -, hanswer, -⟩ := h.port_alike
  cases hb : s.busy with
  | true => simp [startBegin, portCheck, hbusy, hb, ResultRel]
  | false =>
    rw [startBegin_eq_next.2 ⟨hb, rfl⟩, startBegin_eq_next.2 ⟨hbusy.trans hb, rfl⟩, hanswer]
    split
    · exact sameButSerialMode_beginStarted h
    · obtain ⟨bo, f, cl, ch, su, ho, sh, ck, rfl⟩ := h.eq_with
      rfl

theorem resultRel_startOp {i : Instr} (hh : isHostOp i = true) : ResultRel SameButSerialMode (startOp i s) (startOp i t) := by
  cases i with
  | beginOp => exact resultRel_startBegin h
  | txClear | txFrame | txToggle => exact resultRel_startTransmission h _
  | setPixel | getPixel | fill | clear | rowBytes => exact resultRel_exec_serialMode hh h
  | wWrite | wClear | wToggle => cases hh

theorem resultRel_sendCommand (k : Kind) (v : Bool) : ResultRel SameButSerialMode (sendCommand k v s) (sendCommand k v t) := by
  obtain ⟨hseq, hkind, hm1, hbetween, -⟩ := h.sequencer_alike
  have hat : t.atCommand k v = s.atCommand k v := by rw [State.atCommand, State.atCommand, hseq, hkind, hm1, hbetween]
  simp only [sendCommand, hat, sendByte_moveSeq_eq]
  split
  · exact sameButSerialMode_afterByte h _ _
  · rfl

theorem sameButSerialMode_sequencerMove : SameButSerialMode (sequencerMove s) (sequencerMove t) := by
  obtain ⟨bo, f, cl, ch, su, ho, sh, ck, rfl⟩ := h.eq_with
  unfold sequencerMove
  cases hp : s.seq.phase with
  | idle | cmd => exact h
  | setup => rfl
  | addr | data | rowTrail | finalTrail => simp only [sendByte_moveSeq_eq]; rfl
  | hold => simp only [endTransmission_eq]; rfl

theorem sameButSerialMode_withHost (ws : List HostWord) : SameButSerialMode { s with host := ws } { t with host := ws } := by
  obtain ⟨bo, f, cl, ch, su, ho, sh, ck, rfl⟩ := h.eq_with
  rfl

theorem resultRel_advance : ResultRel SameButSerialMode (advance s) (advance t) := by
  obtain ⟨-, -, -, hbetween, hrange⟩ := h.sequencer_alike
  simp only [advance, hbetween, hrange]
  split
  · exact sameButSerialMode_sequencerMove h
  · rfl

/-- At an idle sequencer the port takes the same word, or refuses it alike. -/
theorem resultRel_step_of_idle (hp : s.seq.phase = .idle) : ResultRel SameButSerialMode (step s) (step t) := by
  obtain ⟨hhost, hbusy, hform, -, -⟩ := h.port_alike
  obtain ⟨hseq, -⟩ := h.sequencer_alike
  have hpt : t.seq.phase = .idle := by rw [hseq, hp]
  cases hw : s.host with
  | nil =>
    rw [step_of_no_word hw hp, step_of_no_word (hhost.trans hw) hpt]
    exact h
  | cons w rest =>
    have hwt := hhost.trans hw
    cases hb : s.busy with
    | true =>
      rw [step_of_busy hw hp hb, step_of_busy hwt hpt (hbusy.trans hb)]
      rfl
    | false =>
      have hbt := hbusy.trans hb
      cases hd : decodeHost w with
      | error e =>
        rw [step_of_decodeHost_error hw hp hb hd, step_of_decodeHost_error hwt hpt hbt hd]
        rfl
      | ok i =>
        have hh := isHostOp_of_decodeHost hd
        have hrest := sameButSerialMode_withHost h rest
        rw [step_of_decodeHost_ok hw hp hb hd, step_of_decodeHost_ok hwt hpt hbt hd]
        by_cases hf : s.stepwise = true
        · rw [if_pos hf, if_pos (hform.trans hf)]
          exact resultRel_startOp hrest hh
        · rw [if_neg hf, if_neg (hform ▸ hf)]
          exact resultRel_exec_serialMode hh hrest

end

/-- Settles O52: no operation and no transition reads the fields, and the frames do not depend on the parameters. -/
theorem serialModeIsInvisible : Obligations.SerialModeIsInvisible := by
  intro s t h
  obtain ⟨hseq, hkind, hm1, -, -⟩ := h.sequencer_alike
  by_cases hidle : s.seq.phase = .idle
  · exact resultRel_step_of_idle h hidle
  · by_cases hcmd : s.seq.phase = .cmd
    · rw [step_of_cmd hcmd, step_of_cmd (hseq ▸ hcmd), hkind, hm1, exec_wireInstr, exec_wireInstr]
      exact resultRel_sendCommand h s.kind s.m1l
    · rw [step_move hidle hcmd, step_move (hseq ▸ hidle) (hseq ▸ hcmd)]
      exact resultRel_advance h

/-! What is unwritten before the first BEGIN -/

theorem Mem.fill_zero_of_bound {m : Mem} {n : Nat} (h : ∀ c ∈ m, c.1 < n) : m.fill n 0#8 = [] := by
  have hf : m.filter (fun c => decide (n ≤ c.1)) = [] := List.filter_eq_nil_iff.2 fun c hc => by have := h c hc; simp; omega
  rw [Mem.fill, hf, List.append_nil]
  exact if_pos rfl

/-- Settles O53: a first BEGIN replaces VCOM and NTX, and leaves FB empty of what it held. -/
theorem unwrittenContentsDoNotSurviveBegin : Obligations.UnwrittenContentsDoNotSurviveBegin := by
  intro s t h hi hb ha hs ht
  obtain ⟨fb, vc, n, rfl⟩ : ∃ fb vc n, t = { s with fb := fb, vcom := vc, ntx := n } := ⟨_, _, _, h⟩
  have hsame : afterBegin { s with fb := fb, vcom := vc, ntx := n } = afterBegin s := by
    simp only [afterBegin, Mem.fill_zero_of_bound hs, Mem.fill_zero_of_bound ht, hi, Bool.false_and]
    rfl
  refine ⟨_, exec_begin_of_ok hb ha, ?_⟩
  rw [← hsame]
  exact exec_begin_of_ok hb ha

end Sys2Proof.Machine
end

section
/-! SUPPORT. The informative sink (10_state.md R41): the panel after one more frame, and the rows a full frame stores. -/

namespace Sys2Proof.Machine

/-! The rows of a write frame -/

/-- The rows of the panel once it has stored a full frame of the contents `m`. -/
def storedRows (c : Config) (m : Mem) : List RowImage := (List.range c.height).map fun y => .payload (rowPayload c m y)

theorem length_rowPayload (c : Config) (m : Mem) (y : Nat) : (rowPayload c m y).length = rowBytesOf c := Mem.length_readRange ..

theorem length_storeRows (c : Config) (n : Nat) (body : List Byte) (rows : List RowImage) :
    (storeRows c n body rows).length = rows.length := by
  induction n generalizing body rows with
  | zero => rfl
  | succ n ih =>
    cases body with
    | nil => rfl
    | cons a rest =>
      rw [storeRows, ih]
      split
      · rfl
      · exact List.length_set

/-- One row group: its address is that of the row, whose image becomes the payload. -/
theorem storeRows_rowGroup {c : Config} {y : Nat} (hy : y < c.height) (m : Mem) (n : Nat) (rest : List Byte) (rows : List RowImage) :
    storeRows c (n + 1) (rowGroup c m y ++ rest) rows = storeRows c n rest (rows.set y (.payload (rowPayload c m y))) := by
  have haddr := addrByte_toNat hy
  have hne : addrByte y ≠ 0#8 := fun h => by rw [h] at haddr; cases haddr
  have hgroup := length_rowGroup c m y
  rw [rowGroup, List.length_cons] at hgroup
  rw [rowGroup, List.cons_append, storeRows, if_neg hne, haddr, List.append_assoc, List.take_left' (length_rowPayload c m y),
    ← List.append_assoc, List.drop_left' (by omega)]
  rfl

/-- The row groups from row `y` on store their payloads from there on. -/
theorem storeRows_rowGroups {c : Config} (m : Mem) (tail : List Byte) {n y : Nat} {rows : List RowImage} (hn : y + n = c.height)
    (hl : rows.length = c.height) :
    storeRows c n ((List.range' y n).flatMap (rowGroup c m) ++ tail) rows =
      rows.take y ++ (List.range' y n).map fun y => .payload (rowPayload c m y) := by
  induction n generalizing y rows with
  | zero => simp [storeRows, List.take_of_length_le (by omega : rows.length ≤ y)]
  | succ n ih =>
    have hset : (rows.set y (.payload (rowPayload c m y))).take (y + 1) = rows.take y ++ [.payload (rowPayload c m y)] := by
      rw [List.take_add_one, List.take_set_of_le (Nat.le_refl y), List.getElem?_set_self (by omega)]
      rfl
    rw [List.range'_succ, List.flatMap_cons, List.append_assoc, storeRows_rowGroup (by omega), ih (by omega) (by simpa using hl), hset]
    simp

theorem storeRows_writeFrame {c : Config} (m : Mem) {rows : List RowImage} (hl : rows.length = c.height) :
    storeRows c c.height ((List.range c.height).flatMap (rowGroup c m) ++ [trailerByte]) rows = storedRows c m := by
  rw [storedRows, List.range_eq_range', storeRows_rowGroups m _ (Nat.zero_add _) hl]
  rfl

/-! One more frame -/

theorem panelReceive_clearFrame (c : Config) (p : Panel) (m1 : Bool) :
    panelReceive c p (clearFrame m1) = { rows := some (List.replicate c.height .blank), polarity := some m1 } := by
  cases m1 <;> rfl

theorem panelReceive_toggleFrame (c : Config) (p : Panel) (m1 : Bool) :
    panelReceive c p (toggleFrame m1) = { rows := p.rows, polarity := some m1 } := by
  cases m1 <;> rfl

theorem panelReceive_writeFrame {c : Config} {p : Panel} (hl : ∀ rows, p.rows = some rows → rows.length = c.height) (m : Mem)
    (m1 : Bool) : panelReceive c p (writeFrame c m m1) = { rows := p.rows.map fun _ => storedRows c m, polarity := some m1 } := by
  have hstore : p.rows.map (storeRows c c.height ((List.range c.height).flatMap (rowGroup c m) ++ [trailerByte])) =
      p.rows.map fun _ => storedRows c m := by
    cases hr : p.rows with
    | none => rfl
    | some rows => rw [Option.map_some, storeRows_writeFrame m (hl rows hr), Option.map_some]
  rw [← hstore]
  cases m1 <;> rfl

/-- The panel has HEIGHT rows, or is unknown. -/
theorem length_rows_panelReceive {c : Config} {p : Panel} (hp : ∀ rows, p.rows = some rows → rows.length = c.height) (f : List Byte) :
    ∀ rows, (panelReceive c p f).rows = some rows → rows.length = c.height := by
  cases f with
  | nil => exact hp
  | cons cmd body =>
    intro rows h
    simp only [panelReceive] at h
    split at h
    · rw [← Option.some.inj h, List.length_replicate]
    · split at h
      · obtain ⟨old, hold, rfl⟩ := Option.map_eq_some_iff.1 h
        rw [length_storeRows, hp old hold]
      · exact hp rows h

theorem length_rows_panelOf (c : Config) (w : List Event) : ∀ rows, (panelOf c w).rows = some rows → rows.length = c.height := by
  unfold panelOf
  generalize framesOf w = fs
  induction fs using List.reverseRecOn with
  | nil => exact nofun
  | append_singleton fs f ih =>
    rw [List.foldl_append]
    exact length_rows_panelReceive ih f

section
variable {s : State} (h : Inv s) (hi : s.init = true) (hp : s.seq.phase = .idle)
include h hi hp

/-- A transmission in an idle state shows the panel one more frame. -/
theorem panelOf_afterTransmission (k : Kind) :
    panelOf s.cfg (afterTransmission s k).wire = panelReceive s.cfg (panelOf s.cfg s.wire) (frameOf s.cfg s.fb k s.vcom) := by
  obtain ⟨v, hread, hpin, -⟩ := h.reads
  have hnext := readTrace_envelope (bs := frameOf s.cfg s.fb k s.vcom) hread (hpin.trans (h.cs_low hp hi))
    (by rw [length_frameOf]; exact two_le_frameLength ..)
  simp only [afterTransmission_wire, panelOf, framesOf, hnext, hread, List.foldl_append, List.foldl_cons, List.foldl_nil]

theorem panelOf_afterWrite :
    panelOf s.cfg (afterTransmission s .write).wire =
      { rows := (panelOf s.cfg s.wire).rows.map fun _ => storedRows s.cfg s.fb, polarity := some s.vcom } := by
  rw [panelOf_afterTransmission h hi hp]
  exact panelReceive_writeFrame (length_rows_panelOf s.cfg s.wire) s.fb s.vcom

end

/-- Settles O56: the panel receives the frame of the operation's kind. -/
theorem panelStoresWhatIsSent : Obligations.PanelStoresWhatIsSent := by
  intro s h hi hp
  obtain ⟨-, hb, -⟩ := h.idlePos hp
  refine ⟨⟨_, exec_txClear_eq_next.2 ⟨hb, hi, rfl⟩, ?clear⟩, ⟨_, exec_txFrame_eq_next.2 ⟨hb, hi, rfl⟩, ?polarity, fun hknown => ?rows⟩,
    ⟨_, exec_txToggle_eq_next.2 ⟨hb, hi, rfl⟩, ?toggle⟩⟩
  case clear => exact (panelOf_afterTransmission h hi hp .clear).trans (panelReceive_clearFrame ..)
  case toggle => exact (panelOf_afterTransmission h hi hp .toggle).trans (panelReceive_toggleFrame ..)
  case polarity => rw [panelOf_afterWrite h hi hp]
  case rows =>
    obtain ⟨rows, hrows⟩ := Option.ne_none_iff_exists'.1 hknown
    rw [panelOf_afterWrite h hi hp, hrows]
    rfl

/-- Settles O57: the second frame stores the rows of the same FB over those of the first, and only the polarity differs. -/
theorem repeatedFrameIsIdempotent : Obligations.RepeatedFrameIsIdempotent := by
  intro s h hi hp
  obtain ⟨-, hb, -⟩ := h.idlePos hp
  refine ⟨_, _, _, _, exec_txFrame_eq_next.2 ⟨hb, hi, rfl⟩, exec_txFrame_eq_next.2 ⟨rfl, hi, rfl⟩, rfl, rfl, rfl, rfl, Bool.not_not _, ?_⟩
  have hagain := panelOf_afterWrite (inv_afterTransmission h hp hi .write) hi rfl
  have honce := panelOf_afterWrite h hi hp
  refine (congrArg Panel.rows hagain).trans ?_
  show ((panelOf s.cfg (afterTransmission s .write).wire).rows.map fun _ => storedRows s.cfg s.fb) = _
  rw [honce, Option.map_map]
  rfl

end Sys2Proof.Machine
end
